-- ==== Sys2Proof/Word.lean ====
section
/-! DEFINITION. The word types of the block, and the two small operand types that name an electrical interface mode
(00_scope.md R16, 30_encoding.md R94). Register words are unsigned 32-bit numbers: byte order cannot be observed
(20_memory.md R65). -/

namespace Sys2Proof

/-- A register word: 32 bits, unsigned (R16). -/
abbrev Word := BitVec 32

/-- An operand field of a request word, and the contents of a PHY register: 16 bits (R91, R38). -/
abbrev Half := BitVec 16

/-- A PHY address or PHY register number as `ADDR` holds it: 8 bits (R30). -/
abbrev Octet := BitVec 8

/-- A request word of format `Q`: 64 bits (R91). -/
abbrev RequestWord := BitVec 64

/-- The four electrical interface modes between MAC and PHY (R25, R94). -/
inductive Mode where
  | gmii
  | mii
  | rgmii
  | rmii
deriving DecidableEq, Repr

/-- The `requested_mode` operand: one of the four modes, or a value that names no mode, which the textual syntax
writes `mode#<n>` (R94, R101). -/
inductive ModeOperand where
  | named (m : Mode)
  | unnamed (n : Half)
deriving DecidableEq, Repr

end Sys2Proof
end

