-- ==== Sys2Proof/Config.lean ====
section
/-! DEFINITION. The configuration record of an implementation (00_scope.md R10 to R13), the reference configuration
REFCFG (R14), and the free values: constants with no body, which stand for what the spec leaves open. No operation
changes a configuration (10_state.md R36). -/

namespace Sys2Proof

/-- The configuration record. `SEL_BASE` and `MDIO_BASE` are opaque handles (R15) and have no field: a window is
named. `SELECT_WIDTH` is exactly 2 and `SELECT_WIDTH_P1` exactly 1 (R11), so they have no field either. -/
structure Config where
  /-- `PORT_COUNT` (R10). -/
  portCount : Nat
  /-- `SUPPORTS_GIGABIT` (R10). -/
  supportsGigabit : Bool
  /-- `DIVIDER_TABLE` (R10). -/
  dividerTable : List Nat
  /-- `STRIDE`, `SELECT_SHIFT`, `SPEED_SHIFT`, `SPEED_WIDTH` (R11). -/
  stride : Nat
  selectShift : Nat
  speedShift : Nat
  speedWidth : Nat
  /-- `CFG_OFF`, `CMD_OFF`, `ADDR_OFF`, `CTRL_OFF`, `STATUS_OFF`, `IND_OFF` (R12). -/
  cfgOff : Nat
  cmdOff : Nat
  addrOff : Nat
  ctrlOff : Nat
  statusOff : Nat
  indOff : Nat
  /-- `RESET_BIT`, `CMD_WRITE`, `CMD_READ`, `IND_BUSY` (R12). -/
  resetBit : Word
  cmdWrite : Word
  cmdRead : Word
  indBusy : Word
  /-- `TARGET_RATE`, `RETRY_BUDGET`, `POLL_DELAY_US`, `RESET_SETTLE_US` (R13). -/
  targetRate : Nat
  retryBudget : Nat
  pollDelayUs : Nat
  resetSettleUs : Nat
deriving DecidableEq, Repr

/-- REFCFG (R14). Its layout numbers are the spec's own choice, not the source's. -/
def Config.refcfg : Config where
  portCount := 2
  supportsGigabit := true
  dividerTable := [2, 4, 6, 8, 10, 12, 14, 16]
  stride := 4
  selectShift := 0
  speedShift := 4
  speedWidth := 2
  cfgOff := 0x00
  cmdOff := 0x04
  addrOff := 0x08
  ctrlOff := 0x0C
  statusOff := 0x10
  indOff := 0x14
  resetBit := 0x80000000#32
  cmdWrite := 0#32
  cmdRead := 1#32
  indBusy := 1#32
  targetRate := 2500000
  retryBudget := 1000
  pollDelayUs := 5
  resetSettleUs := 100

/-- FREE VALUE: the n-th word the line chooses under no law, where State lists none (R191, R198; log 6). -/
opaque Config.freeWord : Nat → Word

/-- FREE VALUE: the n-th choice LINE makes of taking its enabled completion step, where State lists none
(R195; log 8). -/
opaque Config.freeTurn : Nat → Bool

/-- FREE VALUE: the n-th answer of the clock provider, where State lists none (R35, R257; log 7). -/
opaque Config.freeClk : Nat → Option Nat

end Sys2Proof
end

