-- ==== Sys2Proof/Syntax.lean ====
section
/-! DEFINITION. The seven operations of the block, one constructor per row of spec/opcode_table.json
(30_encoding.md R90, R92). The block has no stored program, no registers and no other operation (R21, R22, R99). -/

namespace Sys2Proof

/-- An operation with its operands, the abstract form R90 calls the normative level. Operands are unsigned 16-bit
fields of the request word, used as they stand (R91). -/
inductive Instr where
  /-- `set_interface_mode(port_index, requested_mode)` (R123). -/
  | setInterfaceMode (port : Half) (mode : ModeOperand)
  /-- `set_link_speed(port_index, requested_speed_mbps)` (R130); the speed is the plain number of Mbps (R95). -/
  | setLinkSpeed (port : Half) (mbps : Half)
  /-- `compute_divider()` (R150). -/
  | computeDivider
  /-- `reset()` (R154). -/
  | reset
  /-- `wait_not_busy()` (R156). -/
  | waitNotBusy
  /-- `read(phy_address, register)` (R158). -/
  | read (phy : Half) (reg : Half)
  /-- `write(phy_address, register, value)` (R161). -/
  | write (phy : Half) (reg : Half) (value : Half)
deriving DecidableEq, Repr

end Sys2Proof
end

