-- ==== Sys2Proof/Machine/State.lean ====
section
/-! DEFINITION. The state of the block as plain data: S1 to S13 of 10_state.md R20, the launch that R258 fixes (the
configuration, the line level, the answers still to come, the requests still to be issued), and the history of
observable events (R19, R78). No field is a function. -/

namespace Sys2Proof.Machine

/-! ## Names -/

/-- The two register windows (20_memory.md R60, 00_scope.md R16). -/
inductive Window where
  | selwin
  | mdiowin
deriving DecidableEq, Repr

/-- The two independent components (R1, R2). -/
inductive Component where
  | sel
  | mdc
deriving DecidableEq, Repr

/-- The registers S1 to S7 (R20): one word per port, and the six MDIO registers. -/
inductive Reg where
  | miictrl0
  | miictrl1
  | cfg
  | cmd
  | addr
  | ctrl
  | status
  | ind
deriving DecidableEq, Repr

/-- The line levels (42_mdio_device_side.md R191, R192, R200). `simPhy none` is SimPHY(`ALWAYS_BUSY`). -/
inductive LineLevel where
  | openLine
  | wellBehaved
  | simPhy (latency : Option Nat)
deriving DecidableEq, Repr

/-- The cycle in flight, `line.pending` when it is not `None` (R37). -/
inductive Cycle where
  | rd (a r : Octet)
  | wr (a r : Octet) (v : Half)
deriving DecidableEq, Repr

/-- The error kinds (60_exceptions.md R210, R211). `notFound` and `notReady` belong to the lookup of a port handle and
are returned by no operation of this block (R226). -/
inductive ErrorKind where
  | invalidArgument
  | timeout
  | hardwareFault
  | notFound
  | notReady
deriving DecidableEq, Repr

/-- The result of an operation (R17): success without a value, success with one (`read`, `compute_divider`), or an
error, which carries no value (R96, R159). -/
inductive Result where
  | ok
  | okValue (v : Nat)
  | error (k : ErrorKind)
deriving DecidableEq, Repr

/-- The observable events (R19). -/
inductive Event where
  /-- `Req(op, operands)`. -/
  | req (i : Instr)
  /-- A request word that spells no operation (R97). -/
  | reqIllegal (w : RequestWord)
  /-- `Ld(win, off, value)`. -/
  | ld (win : Window) (off : Nat) (v : Word)
  /-- `St(win, off, value)`. -/
  | st (win : Window) (off : Nat) (v : Word)
  /-- `Delay(us)`. -/
  | delay (us : Nat)
  /-- `ClkQuery(answer)`. -/
  | clkQuery (answer : Option Nat)
  /-- `Resp(kind, value)`, with the component that answers; `none` for an illegal request word. -/
  | resp (who : Option Component) (r : Result)
  /-- `Diag` (R156). -/
  | diag
  /-- `Log(a, r, v)` (R163). -/
  | log (a r : Octet) (v : Half)
deriving DecidableEq, Repr

/-! ## Sequencers -/

/-- `sel_seq` (S9, R39). -/
inductive SelSeq where
  | idle
  | running
deriving DecidableEq, Repr

/-- The position inside a `wait_not_busy`, with the `polls_left` of R39: the Indicator load comes next, or the delay
after a busy load. -/
inductive WaitPos where
  | poll (pollsLeft : Nat)
  | delay (pollsLeft : Nat)
deriving DecidableEq, Repr

/-- The next micro-step of `reset` (R154); `d` is the divider the search found. -/
inductive ResetPos where
  | query
  | assert (d : Nat)
  | settleAsserted (d : Nat)
  | release (d : Nat)
  | settleReleased
deriving DecidableEq, Repr

/-- The next micro-step of `read` (R158); `v` is the value step 4 loaded. -/
inductive ReadPos where
  /-- Step 1. -/
  | firstWait (w : WaitPos)
  /-- Step 2a. -/
  | storeIdle
  /-- Step 2b. -/
  | storeAddr
  /-- Step 2c. -/
  | storeRead
  /-- Step 3. -/
  | secondWait (w : WaitPos)
  /-- The store of `CMD_WRITE` on the step-3 Timeout (R159). -/
  | abort
  /-- Step 4. -/
  | loadStatus
  /-- Step 5. -/
  | storeBack (v : Half)
deriving DecidableEq, Repr

/-- The next micro-step of `write` (R161). -/
inductive WritePos where
  | storeAddr
  | storeCtrl
  | finalWait (w : WaitPos)
deriving DecidableEq, Repr

/-- `mdio_seq` (S10, R39): `Idle`, or the open operation with its operands and the position of its next micro-step.
`compute_divider` makes no access and is one micro-step, so it is never open between steps. -/
inductive MdioSeq where
  | idle
  | reset (pos : ResetPos)
  | waitNotBusy (pos : WaitPos)
  | read (phy reg : Half) (pos : ReadPos)
  | write (phy reg value : Half) (pos : WritePos)
deriving DecidableEq, Repr

/-! ## Requests, memory, reasons to stop -/

/-- A request `HOST` is going to issue. `overlap = none`: issued after the response to the request before it (R101).
`overlap = some n`: issued n steps after it has become the next request, whether or not the one before has been
answered (R70, R257: requests to the two components may overlap). -/
structure Request where
  word : RequestWord
  overlap : Option Nat
deriving DecidableEq, Repr

/-- `line.phy` (S12, R38): pairs of a cell number (256 * a + r) and its 16-bit contents, cell numbers strictly
rising, no cell listed that holds what an unlisted cell holds (log 5). -/
abbrev Memory := List (Nat × Half)

/-- Why the model stops where the hardware does not say what happens. No step of a valid configuration ends in one. -/
inductive Fault where
  /-- Raised by `State.regRead` and `State.regWrite` for an offset that names no register (20_memory.md R76: never
  accessed by any operation). Safe: the machine stops. -/
  | noRegister (win : Window) (off : Nat)
  /-- Raised by `State.regWrite` for a store to `STATUS` or `IND`, which are read-only for the controller
  (10_state.md R32, R33: no operation stores to them). Safe: the machine stops. -/
  | readOnly (win : Window) (off : Nat)
deriving DecidableEq, Repr

/-- Why the model gives a request or a launch no meaning. -/
inductive Refusal where
  /-- Raised by an arm of `exec` for an operation the model has not reached. Safe. -/
  | notModelled (mnemonic : String)
  /-- Raised for a request to a component whose sequencer is running (20_memory.md R70, 60_exceptions.md R227).
  Safe: the spec gives such a run no meaning. -/
  | componentBusy (c : Component)
  /-- Raised by `step` for a configuration that breaks a constraint of R10 to R12 (60_exceptions.md R227). Safe: such
  a record describes no hardware. -/
  | badConfiguration
  /-- Raised by `Config.responseWord`, never by a step, for a configuration whose results do not all fit the field
  `VALUE` (30_encoding.md R96: refused for the binary form only). Safe: no word is made up. -/
  | noBinaryForm
deriving DecidableEq, Repr

/-! ## The state -/

/-- The whole machine. -/
structure State where
  /-- The configuration record, fixed at launch (R10 to R14, R258). -/
  cfg : Config
  /-- The line level, fixed at launch (R191, R192, R200, R258). -/
  level : LineLevel
  /-- S1 `MIICTRL[0]`, `MIICTRL[1]` (R24). -/
  miictrl0 : Word
  miictrl1 : Word
  /-- S2 `CFG` (R28). -/
  cfgReg : Word
  /-- S3 `CMD` (R29). -/
  cmd : Word
  /-- S4 `ADDR` (R30). -/
  addr : Word
  /-- S5 `CTRL` (R31). -/
  ctrl : Word
  /-- S6 `STATUS` (R32). -/
  status : Word
  /-- S7 `IND` (R33). -/
  ind : Word
  /-- S8 `ref_rate` (R35). -/
  refRate : Option Nat
  /-- S9 `sel_seq` (R39). -/
  selSeq : SelSeq
  /-- S10 `mdio_seq` (R39). -/
  mdioSeq : MdioSeq
  /-- S11 `line.pending` (R37). -/
  pending : Option Cycle
  /-- Whether a `reset` has answered OK since power-on (70_reset_and_hazards.md R242, R243; log 29). -/
  resetDone : Bool
  /-- S12 `line.phy` (R38). -/
  phy : Memory
  /-- S13 `line.fault` (R37, R199). -/
  lineFault : Bool
  /-- `line.countdown` of SimPHY (R200). -/
  countdown : Nat
  /-- The requests `HOST` has not issued yet (R101, R258). -/
  requests : List Request
  /-- The answers `CLK` is going to give (R258). -/
  clkAnswers : List (Option Nat)
  /-- The words the line is going to choose under no law (R191, R198, R243); the model's own. -/
  draws : List Word
  /-- The choices LINE is going to make of taking its completion step (R195), or a trigger before
  the first successful `reset` (R243); the model's own. -/
  turns : List Bool
  /-- How many free values of Config have been used; the model's own. -/
  drawn : Nat
  /-- The observable events so far, oldest first (R19, R78). -/
  history : List Event
deriving DecidableEq, Repr

/-- A launch (70_reset_and_hazards.md R258): the configuration, the line level, the contents of every register and of
the PHY cells at power-on, the answers and choices to come, and the requests. -/
structure Launch where
  cfg : Config
  level : LineLevel
  miictrl0 : Word
  miictrl1 : Word
  cfgReg : Word
  cmd : Word
  addr : Word
  ctrl : Word
  status : Word
  ind : Word
  pending : Option Cycle
  phy : Memory
  requests : List Request
  clkAnswers : List (Option Nat)
  draws : List Word
  turns : List Bool
deriving DecidableEq, Repr

/-- `CMD` at power-on: `CMD_WRITE` in SimPHY, any value elsewhere (R40). -/
def powerOnCmd (l : Launch) : Word :=
  match l.level with
  | .simPhy _ => l.cfg.cmdWrite
  | .openLine => l.cmd
  | .wellBehaved => l.cmd

/-- `STATUS` at power-on: any value; in SimPHY every arbitrary bit is 0 (R40, R200). -/
def powerOnStatus (l : Launch) : Word :=
  match l.level with
  | .simPhy _ => 0#32
  | .openLine => l.status
  | .wellBehaved => l.status

/-- `line.pending` at power-on: `None` in SimPHY, any value elsewhere (R40). -/
def powerOnPending (l : Launch) : Option Cycle :=
  match l.level with
  | .simPhy _ => none
  | .openLine => l.pending
  | .wellBehaved => l.pending

/-- `IND` at power-on: any value, with the busy bit 0 in SimPHY (R40, R200) and the busy bit following
`line.pending` in `LINE` (R192). -/
def powerOnInd (l : Launch) : Word :=
  match l.level with
  | .simPhy _ => 0#32
  | .openLine => l.ind
  | .wellBehaved =>
    match l.pending with
    | some _ => l.ind ||| l.cfg.indBusy
    | none => l.ind &&& ~~~l.cfg.indBusy

/-- The machine at power-on (10_state.md R40): `ref_rate` is `None`, both sequencers are `Idle`, `line.fault` is false,
and no `reset` has answered OK (R243); everything else is what the launch says, within what R40 fixes for its line
level. -/
def State.powerOn (l : Launch) : State where
  cfg := l.cfg
  level := l.level
  miictrl0 := l.miictrl0
  miictrl1 := l.miictrl1
  cfgReg := l.cfgReg
  cmd := powerOnCmd l
  addr := l.addr
  ctrl := l.ctrl
  status := powerOnStatus l
  ind := powerOnInd l
  refRate := none
  selSeq := .idle
  mdioSeq := .idle
  pending := powerOnPending l
  resetDone := false
  phy := l.phy
  lineFault := false
  countdown := 0
  requests := l.requests
  clkAnswers := l.clkAnswers
  draws := l.draws
  turns := l.turns
  drawn := 0
  history := []

/-- The launch of `State.reset`: REFCFG, SimPHY(2), every unspecified register word 0, no PHY cell listed, nothing
still to come. DESIGN CHOICE (logs 2 to 9). -/
def Launch.reference : Launch where
  cfg := Config.refcfg
  level := .simPhy (some 2)
  miictrl0 := 0#32
  miictrl1 := 0#32
  cfgReg := 0#32
  cmd := 0#32
  addr := 0#32
  ctrl := 0#32
  status := 0#32
  ind := 0#32
  pending := none
  phy := []
  requests := []
  clkAnswers := []
  draws := []
  turns := []

/-- The machine right after power-on of the reference launch. Unsafe where a claim rests on a value the launch
names (logs 2 to 5). -/
def State.reset : State := State.powerOn Launch.reference

end Sys2Proof.Machine
end

