-- ==== Sys2Proof/Machine/Flags.lean ====
section
/-! DEFINITION. There is no flags register (10_state.md R23). The two things that play the part of a flag are the busy
bit of `IND` (R33) and the result kind of an operation, which exists only in the response (60_exceptions.md R211,
30_encoding.md R96). -/

namespace Sys2Proof

/-- The busy bit of an Indicator word; every other bit is ignored (R33, R156). -/
def Config.busyIn (c : Config) (v : Word) : Bool := v &&& c.indBusy != 0#32

namespace Machine

/-- The result code (R211). -/
def ErrorKind.code : ErrorKind → BitVec 4
  | .invalidArgument => 1#4
  | .timeout => 2#4
  | .hardwareFault => 3#4
  | .notFound => 4#4
  | .notReady => 5#4

/-- The field `RESULT` of the response (R96, R211). -/
def Result.code : Result → BitVec 4
  | .ok => 0#4
  | .okValue _ => 0#4
  | .error k => k.code

/-- The number in the field `VALUE` of the response: 0 but for a successful `read` or `compute_divider` (R96). -/
def Result.valueField : Result → Nat
  | .ok => 0
  | .okValue v => v
  | .error _ => 0

/-- The layout of the response word (R96): zero, `RESULT`, `VALUE`; none for a value that does not fit `VALUE`. -/
def Result.word (r : Result) : Option Word :=
  if r.valueField < 65536 then
    some ((r.code.setWidth 32 <<< 16) ||| (BitVec.ofNat 16 r.valueField).setWidth 32)
  else none

/-- The error kind of a result code, `none` for 0 and for the reserved codes 6 to 15 (R211). -/
def ErrorKind.ofCode (c : BitVec 4) : Option ErrorKind :=
  if c = 1#4 then some .invalidArgument
  else if c = 2#4 then some .timeout
  else if c = 3#4 then some .hardwareFault
  else if c = 4#4 then some .notFound
  else if c = 5#4 then some .notReady
  else none

end Machine

/-- Every entry of the table fits the field `VALUE` of a response word (R96). -/
abbrev Config.HasBinaryForm (c : Config) : Prop := ∀ d ∈ c.dividerTable, d < 65536

/-- The response word of a result under a configuration (R96): a configuration with a table entry above 65535 is
refused, for this binary form only. A value above 65535, which no result of another configuration has, is refused by
the same name (log 26). -/
def Config.responseWord (c : Config) (r : Machine.Result) : Except Machine.Refusal Word :=
  if c.HasBinaryForm then
    match r.word with
    | some w => .ok w
    | none => .error .noBinaryForm
  else .error .noBinaryForm

end Sys2Proof
end

