-- ==== Sys2Proof/Machine/Memory.lean ====
section
/-! DEFINITION. `line.phy` (10_state.md R38): 256 x 256 cells of 16 bits, held as a list of (cell number, contents)
pairs in one canonical form. A cell holds what was last written (R38). -/

namespace Sys2Proof.Machine

/-- What a cell that is not listed holds (log 5). -/
def Memory.unlisted : Half := 0#16

/-- The number of the cell `line.phy[a][r]`. -/
def cellNumber (a r : Octet) : Nat := 256 * a.toNat + r.toNat

/-- The contents of cell `n`. -/
def Memory.read : Memory → Nat → Half
  | [], _ => Memory.unlisted
  | (k, v) :: rest, n => if k = n then v else Memory.read rest n

/-- One listed cell, or nothing where the contents are those of an unlisted cell. -/
def Memory.cell (n : Nat) (v : Half) : Memory := if v = Memory.unlisted then [] else [(n, v)]

/-- The cells with cell `n` holding `v`, in canonical form. -/
def Memory.write : Memory → Nat → Half → Memory
  | [], n, v => Memory.cell n v
  | (k, x) :: rest, n, v =>
    if n < k then Memory.cell n v ++ (k, x) :: rest
    else if n = k then Memory.cell n v ++ rest
    else (k, x) :: Memory.write rest n v

/-- Cell numbers from `lo` on, strictly rising and below 65536, no unlisted contents listed. -/
def Memory.wfFrom : Nat → Memory → Bool
  | _, [] => true
  | lo, (k, v) :: rest => decide (lo ≤ k) && decide (k < 65536) && v != Memory.unlisted && Memory.wfFrom (k + 1) rest

/-- The canonical form of `line.phy`. -/
def Memory.wf (m : Memory) : Bool := Memory.wfFrom 0 m

end Sys2Proof.Machine
end

