-- ==== Sys2Proof/Machine/Map.lean ====
section
/-! DEFINITION. The constraints a configuration must meet (00_scope.md R10 to R12, 41_mdio_controller.md R153), the
address map of the two windows (20_memory.md R60 to R62, R66, R76), and the registers as storage. -/

namespace Sys2Proof

/-- The word has exactly one bit set. -/
def oneBit (w : Word) : Bool := (List.range 32).any fun k => w == 1#32 <<< k

/-- R10 and R153: one or two ports; the divider table is not empty, its entries are positive and smaller than
`RESET_BIT` (R12). -/
abbrev Config.VariantOk (c : Config) : Prop :=
  (c.portCount = 1 ∨ c.portCount = 2) ∧ c.dividerTable ≠ [] ∧ ∀ d ∈ c.dividerTable, 0 < d ∧ d < c.resetBit.toNat

/-- R11: the stride is a positive multiple of 4; the two fields lie inside the word and do not overlap. -/
abbrev Config.SelectorOk (c : Config) : Prop :=
  c.stride % 4 = 0 ∧ 4 ≤ c.stride ∧ 2 ≤ c.speedWidth ∧ c.selectShift + 2 ≤ 32 ∧ c.speedShift + c.speedWidth ≤ 32 ∧
    (c.selectShift + 2 ≤ c.speedShift ∨ c.speedShift + c.speedWidth ≤ c.selectShift)

/-- The six offsets, in ABL's listing order (R12). -/
def Config.mdioOffsets (c : Config) : List Nat :=
  [c.cfgOff, c.cmdOff, c.addrOff, c.ctrlOff, c.statusOff, c.indOff]

/-- R12: six distinct multiples of 4; `RESET_BIT` and `IND_BUSY` are single bits; the two command values differ. -/
abbrev Config.MdioOk (c : Config) : Prop :=
  c.mdioOffsets.Nodup ∧ (∀ o ∈ c.mdioOffsets, o % 4 = 0) ∧ oneBit c.resetBit = true ∧ oneBit c.indBusy = true ∧
    c.cmdWrite ≠ c.cmdRead

/-- The configuration describes hardware; any other is refused (R11, R227, U14 of 93_implementation_defined.md). -/
abbrev Config.Valid (c : Config) : Prop := c.VariantOk ∧ c.SelectorOk ∧ c.MdioOk

/-- The byte offset of a port's word in `SELWIN` (R61). -/
def Config.portOffset (c : Config) (p : Nat) : Nat := p * c.stride

/-- The register at a byte offset of a window, if any (R61, R62). Offsets in between name none (R76). -/
def Config.regAt (c : Config) (win : Machine.Window) (off : Nat) : Option Machine.Reg :=
  match win with
  | .selwin =>
    if off = c.portOffset 0 ∧ 0 < c.portCount then some .miictrl0
    else if off = c.portOffset 1 ∧ 1 < c.portCount then some .miictrl1
    else none
  | .mdiowin =>
    if off = c.cfgOff then some .cfg
    else if off = c.cmdOff then some .cmd
    else if off = c.addrOff then some .addr
    else if off = c.ctrlOff then some .ctrl
    else if off = c.statusOff then some .status
    else if off = c.indOff then some .ind
    else none

namespace Machine

/-- The word a register holds. -/
def State.readReg (s : State) (r : Reg) : Word :=
  match r with
  | .miictrl0 => s.miictrl0
  | .miictrl1 => s.miictrl1
  | .cfg => s.cfgReg
  | .cmd => s.cmd
  | .addr => s.addr
  | .ctrl => s.ctrl
  | .status => s.status
  | .ind => s.ind

/-- The state with the word of one register replaced; registers hold whole words (R27, D21). -/
def State.setReg (s : State) (r : Reg) (v : Word) : State :=
  match r with
  | .miictrl0 => { s with miictrl0 := v }
  | .miictrl1 => { s with miictrl1 := v }
  | .cfg => { s with cfgReg := v }
  | .cmd => { s with cmd := v }
  | .addr => { s with addr := v }
  | .ctrl => { s with ctrl := v }
  | .status => { s with status := v }
  | .ind => { s with ind := v }

/-- The word of port `p` (S1). -/
def State.portWord (s : State) (p : Nat) : Word := if p = 0 then s.miictrl0 else s.miictrl1

end Machine

end Sys2Proof
end

