-- ==== Sys2Proof/Machine/Operands.lean ====
section
/-! DEFINITION. The fields of a `MIICTRL` word and the checks and packings of the two selector operations
(10_state.md R24 to R27, R43; 40_interface_selector.md R123 to R133), the packing of `ADDR` and `CTRL` (R30, R31), and
the divider search (41_mdio_controller.md R150 to R153). All of them are functions of the configuration and of values
only. -/

namespace Sys2Proof

/-! ## The selector word -/

/-- `SELECT_MASK(p)`: the field is one bit wide on port 1 and two bits wide elsewhere (R25). -/
def selectMask (p : Nat) : Word := if p = 1 then 1#32 else 3#32

/-- `SPEED_MASK = 2^SPEED_WIDTH - 1` (R43). -/
def Config.speedMask (c : Config) : Word := BitVec.ofNat 32 (2 ^ c.speedWidth - 1)

/-- The select code in a word of port `p` (R25, R130). -/
def Config.selectCode (c : Config) (p : Nat) (w : Word) : Word := (w >>> c.selectShift) &&& selectMask p

/-- The speed code in a word (R26, R123). -/
def Config.speedCode (c : Config) (w : Word) : Word := (w >>> c.speedShift) &&& c.speedMask

/-- The word with these two fields and every other bit 0 (R128, R129). -/
def Config.packSelector (c : Config) (sel spd : Word) : Word := (sel <<< c.selectShift) ||| (spd <<< c.speedShift)

/-- The decoded form of a `MIICTRL` word (R43). -/
structure SelectorFields where
  selectCode : Word
  speedCode : Word
deriving DecidableEq, Repr

/-- `decode(p, w)` of R43. -/
def Config.decodeSelector (c : Config) (p : Nat) (w : Word) : SelectorFields :=
  { selectCode := c.selectCode p w, speedCode := c.speedCode w }

/-- `encode(rec)` of R43. -/
def Config.encodeSelector (c : Config) (f : SelectorFields) : Word := c.packSelector f.selectCode f.speedCode

/-- The select code of a mode (R25). -/
def Mode.code : Mode → Word
  | .gmii => 0#32
  | .mii => 1#32
  | .rgmii => 2#32
  | .rmii => 3#32

/-- GMII and MII exist on port 0 only (R124). -/
def Mode.port0Only : Mode → Bool
  | .gmii => true
  | .mii => true
  | .rgmii => false
  | .rmii => false

/-- GMII and RGMII need a variant that supports gigabit (R125) and carry the speed code over; MII and RMII clamp it
(R126). -/
def Mode.gigabit : Mode → Bool
  | .gmii => true
  | .mii => false
  | .rgmii => true
  | .rmii => false

/-- The speed code `set_interface_mode` stores: carried over, or at most the code of 100 Mbps (R126). -/
def Mode.speedFor (m : Mode) (cur : Word) : Word :=
  if m.gigabit then cur else if cur ≤ 1#32 then cur else 1#32

/-- The checks of `set_interface_mode` after its load, in their order (R123, R215), and the word it stores if all pass:
the mode has a name, the port restriction, the gigabit restriction. -/
def Config.modeWord (c : Config) (p : Nat) (m : ModeOperand) (w : Word) : Option Word :=
  match m with
  | .unnamed _ => none
  | .named m =>
    if m.port0Only ∧ p ≠ 0 then none
    else if m.gigabit ∧ ¬c.supportsGigabit then none
    else some (c.packSelector (m.code &&& selectMask p) (m.speedFor (c.speedCode w)))

/-- The speed code of a number of Mbps: exclusive cases, no fall-through (R131, R133). -/
def speedCodeOf (mbps : Half) : Option Word :=
  if mbps = 10#16 then some 0#32
  else if mbps = 100#16 then some 1#32
  else if mbps = 1000#16 then some 2#32
  else none

/-- The checks of `set_link_speed` after its load, in their order, and the word it stores if all pass: the speed is
one of three (R131); 1000 Mbps is refused while the stored select code is odd, MII or RMII (R132). -/
def Config.linkWord (c : Config) (p : Nat) (mbps : Half) (w : Word) : Option Word :=
  match speedCodeOf mbps with
  | none => none
  | some code =>
    if code = 2#32 ∧ c.selectCode p w &&& 1#32 = 1#32 then none
    else some (c.packSelector (c.selectCode p w) code)

/-! ## The MDIO words -/

/-- The low 8 bits of an operand, the field width of `ADDR` (R30, R74). -/
def maskOctet (v : Half) : Octet := v.setWidth 8

/-- The word stored in `ADDR`: `((phy & 0xFF) << 8) | (reg & 0xFF)`, bits 31..16 zero (R30). -/
def packAddr (phy reg : Half) : Word :=
  ((maskOctet phy).setWidth 32 <<< 8) ||| (maskOctet reg).setWidth 32

/-- The PHY address and register number an `ADDR` word names (R74). -/
def phyOfAddr (w : Word) : Octet := w.extractLsb' 8 8

@[inherit_doc phyOfAddr]
def regOfAddr (w : Word) : Octet := w.extractLsb' 0 8

/-- Bits 15..0 of a word: the field `DATA` of `CTRL` and of `STATUS` (R31, R32). -/
def dataField (w : Word) : Half := w.extractLsb' 0 16

/-- `zext_32` of a 16-bit value (R16, R161). -/
def zextWord (v : Half) : Word := v.setWidth 32

/-! ## The divider search -/

/-- The scan of R150 from a table position on: the first entry whose truncated quotient does not exceed the target,
or `last` when the table ends (R151, R153). -/
def scanDivider (hz target last : Nat) : List Nat → Nat
  | [] => last
  | d :: ds => if hz / d ≤ target then d else scanDivider hz target last ds

/-- `compute_divider(ref)` (R150): none is HardwareFault, when the rate is unavailable or zero (R152). -/
def Config.divider (c : Config) (ref : Option Nat) : Option Nat :=
  match ref with
  | none => none
  | some 0 => none
  | some hz => some (scanDivider hz c.targetRate (c.dividerTable.getLastD 0) c.dividerTable)

end Sys2Proof
end

