-- ==== Sys2Proof/Machine/Line.lean ====
section
/-! DEFINITION. The line side (42_mdio_device_side.md), on its three levels: what the line chooses freely, how a cycle
starts (R193, R194), completes (R195) and is dropped (R196), which stores have no behaviour (R199), and what the line
drives onto `IND` and `STATUS` when they are loaded (R191, R198, R200). -/

namespace Sys2Proof.Machine

/-! ## Free choices -/

/-- The next word the line chooses under no law: the next of `draws`, else a free value (log 6). -/
def State.drawWord (s : State) : Word × State :=
  match s.draws with
  | w :: ws => (w, { s with draws := ws })
  | [] => (Config.freeWord s.drawn, { s with drawn := s.drawn + 1 })

/-- The next choice of LINE to take its enabled step or not: the next of `turns`, else a free value (log 8). -/
def State.drawTurn (s : State) : Bool × State :=
  match s.turns with
  | b :: bs => (b, { s with turns := bs })
  | [] => (Config.freeTurn s.drawn, { s with drawn := s.drawn + 1 })

/-- The next answer of the clock provider: the next of `clkAnswers`, else a free value (R257; log 7). -/
def State.drawClk (s : State) : Option Nat × State :=
  match s.clkAnswers with
  | q :: qs => (q, { s with clkAnswers := qs })
  | [] => (Config.freeClk s.drawn, { s with drawn := s.drawn + 1 })

/-! ## Cycles -/

/-- A cycle starts: it is in flight, the busy bit is set, and SimPHY(L) counts from L (R193, R194, R200). -/
def State.startCycle (s : State) (c : Cycle) : State :=
  { s with
    pending := some c
    ind := s.ind ||| s.cfg.indBusy
    countdown := match s.level with
      | .simPhy (some l) => l
      | .simPhy none => s.countdown
      | .openLine => s.countdown
      | .wellBehaved => s.countdown }

/-- No cycle is in flight and the busy bit is clear. -/
def State.clearCycle (s : State) : State :=
  { s with pending := none, ind := s.ind &&& ~~~s.cfg.indBusy }

/-- A store reached the line in a state the source gives no behaviour for: sticky (R199). -/
def State.markFault (s : State) : State := { s with lineFault := true }

/-- LINE's completion step, if a cycle is in flight (R195): a read cycle fills `STATUS[15:0]` from the PHY cell, a
write cycle writes the cell. -/
def State.completeCycle (s : State) : State :=
  match s.pending with
  | none => s
  | some (.rd a r) =>
    { s.clearCycle with status := (s.status &&& 0xFFFF0000#32) ||| zextWord (s.phy.read (cellNumber a r)) }
  | some (.wr a r v) => { s.clearCycle with phy := s.phy.write (cellNumber a r) v }

/-! ## Before the first successful reset -/

/-- The open operation is a `read` or a `write`. -/
def MdioSeq.transacts : MdioSeq → Bool
  | .idle => false
  | .reset _ => false
  | .waitNotBusy _ => false
  | .read _ _ _ => true
  | .write _ _ _ _ => true

/-- A `read` or a `write` runs on a level that has a line while no `reset` has answered OK since power-on: its result has
no guarantee beyond the open line's (70_reset_and_hazards.md R243, U10 of 93_implementation_defined.md; log 29). -/
def State.beforeReset (s : State) : Bool :=
  decide (s.level ≠ .openLine) && !s.resetDone && s.mdioSeq.transacts

/-- A trigger the engine has a rule for (R193, R194): it starts its cycle. Before the first successful `reset` the engine
is possibly held in reset (R28, R243), so there the line chooses whether it takes the trigger: the next of `turns`, else
a free value (log 29). -/
def State.trigger (s : State) (c : Cycle) : State :=
  if s.beforeReset then
    if s.drawTurn.1 then s.drawTurn.2.startCycle c else s.drawTurn.2
  else s.startCycle c

/-! ## Stores -/

/-- What a store of `v` to `CMD` does to the line (R193, R197, R199). `CMD` still holds its old value. -/
def State.lineCmdStore (s : State) (v : Word) : State :=
  if v = s.cfg.cmdRead then
    match s.pending with
    | some _ => s.markFault
    | none =>
      if s.cmd = s.cfg.cmdWrite then s.trigger (.rd (phyOfAddr s.addr) (regOfAddr s.addr)) else s
  else if v = s.cfg.cmdWrite then s
  else s.markFault

/-- What a store of `v` to `CTRL` does to the line (R194, R199). A `CMD` word that is neither command value starts
nothing (log 12). -/
def State.lineCtrlStore (s : State) (v : Word) : State :=
  match s.pending with
  | some _ => s.markFault
  | none =>
    if s.cmd = s.cfg.cmdWrite then s.trigger (.wr (phyOfAddr s.addr) (regOfAddr s.addr) (dataField v))
    else if s.cmd = s.cfg.cmdRead then s.markFault
    else s

/-- What a store of `v` to `CFG` does to the line: with `RESET_BIT` set the cycle in flight is dropped without its
effect and the command latch idles; with it clear, nothing (R196). -/
def State.lineCfgStore (s : State) (v : Word) : State :=
  if v &&& s.cfg.resetBit ≠ 0#32 then { s.clearCycle with cmd := s.cfg.cmdWrite } else s

/-- What a store does to the line, by register; the other registers have no line effect (20_memory.md R67, R197). On
the open line a store has no effect beyond the stored word (R191). -/
def State.lineStore (s : State) (r : Reg) (v : Word) : State :=
  match s.level with
  | .openLine => s
  | .wellBehaved | .simPhy _ =>
    match r with
    | .cfg => s.lineCfgStore v
    | .cmd => s.lineCmdStore v
    | .ctrl => s.lineCtrlStore v
    | .miictrl0 => s
    | .miictrl1 => s
    | .addr => s
    | .status => s
    | .ind => s

/-! ## Loads -/

/-- SimPHY(L) at an Indicator load, L a number: a cycle whose countdown has run out completes, else the countdown goes
down by one; with no cycle in flight nothing changes (R200). -/
def State.simPoll (s : State) : State :=
  match s.pending with
  | none => s
  | some _ => if s.countdown = 0 then s.completeCycle else { s with countdown := s.countdown - 1 }

/-- The line's answer at an Indicator load. Open line: an arbitrary word (R191). `LINE`: the busy bit as it is, every
other bit arbitrary (R198). SimPHY: the busy bit after `simPoll`, or as it is with `ALWAYS_BUSY`, whose countdown never
runs out; the other bits are 0 (R200). DEDUCED: the open line has no cycles, so `line.pending` there stays what the launch
made it, whatever a load shows (R40, R42, R191; log 30). -/
def State.driveInd (s : State) : State :=
  match s.level with
  | .openLine => { s.drawWord.2 with ind := s.drawWord.1 }
  | .wellBehaved =>
    { s.drawWord.2 with ind := (s.drawWord.1 &&& ~~~s.cfg.indBusy) ||| (s.ind &&& s.cfg.indBusy) }
  | .simPhy none => { s with ind := s.ind &&& s.cfg.indBusy }
  | .simPhy (some _) => { s.simPoll with ind := s.simPoll.ind &&& s.cfg.indBusy }

/-- The line's answer at a Status load: open line an arbitrary word (R191); `LINE` the value of the last completed
read cycle in bits 15..0, the rest arbitrary (R198); SimPHY the same with the rest 0 (R200). -/
def State.driveStatus (s : State) : State :=
  match s.level with
  | .openLine => { s.drawWord.2 with status := s.drawWord.1 }
  | .wellBehaved =>
    { s.drawWord.2 with status := (s.drawWord.1 &&& 0xFFFF0000#32) ||| (s.status &&& 0x0000FFFF#32) }
  | .simPhy _ => { s with status := s.status &&& 0x0000FFFF#32 }

/-- What the line drives when a register is loaded; only `IND` and `STATUS` are the line's (R198). -/
def State.lineDrive (s : State) (r : Reg) : State :=
  match r with
  | .ind => s.driveInd
  | .status => s.driveStatus
  | .miictrl0 => s
  | .miictrl1 => s
  | .cfg => s
  | .cmd => s
  | .addr => s
  | .ctrl => s

/-- What an Indicator load does on the line besides the word it returns: SimPHY(L) counts it (R200). -/
def State.indTick (s : State) : State :=
  match s.level with
  | .openLine => s
  | .wellBehaved => s
  | .simPhy none => s
  | .simPhy (some _) => s.simPoll

/-- The word a load of a register returns, and the state after it. Before the first successful `reset` a `read` or
`write` sees an arbitrary word at every load of `IND` and of `STATUS`, as on the open line (R243, U10; log 29): the word
shows nothing of the line, and the two registers keep what the line has put there. Everywhere else the word is what the
line drives. -/
def State.lineLoad (s : State) (r : Reg) : Word × State :=
  if s.beforeReset then
    match r with
    | .ind => s.indTick.drawWord
    | .status => s.drawWord
    | .miictrl0 => (s.miictrl0, s)
    | .miictrl1 => (s.miictrl1, s)
    | .cfg => (s.cfgReg, s)
    | .cmd => (s.cmd, s)
    | .addr => (s.addr, s)
    | .ctrl => (s.ctrl, s)
  else ((s.lineDrive r).readReg r, s.lineDrive r)

/-! ## LINE's own step -/

/-- LINE's opportunity to take its completion step, before every step of the machine: between any two micro-steps,
during a delay, while no operation is open; it may also never be taken (R195; log 8). SimPHY completes a cycle at an
Indicator load only (R200), and the open line has no cycles (R191). -/
def State.lineTurn (s : State) : State :=
  match s.level with
  | .openLine => s
  | .simPhy _ => s
  | .wellBehaved =>
    match s.pending with
    | none => s
    | some _ => if s.drawTurn.1 then s.drawTurn.2.completeCycle else s.drawTurn.2

end Sys2Proof.Machine
end

