-- ==== Sys2Proof/Machine/Ops.lean ====
section
/-! DEFINITION. The operations every meaning is written over: events (00_scope.md R19), the two access primitives
(20_memory.md R64), delays and the clock query (R16), accepting a request and answering it, the one way an operation
ends (60_exceptions.md R216). -/

namespace Sys2Proof.Machine

/-- What a step answers. -/
abbrev Answer := Host.Outcome State Fault Refusal

/-- The answer of a computation that ends in a state or in a fault. -/
def answerOf : Except Fault State → Answer
  | .ok s => .next s
  | .error f => .fault f

/-- Adds one event to the history (R19, R78). -/
def State.record (s : State) (e : Event) : State := { s with history := s.history ++ [e] }

/-- One load of a register, and its event: the word, and the state after it. The line answers for `IND` and `STATUS`;
the load itself changes nothing but the history (R67). -/
def State.loadReg (s : State) (r : Reg) (win : Window) (off : Nat) : Word × State :=
  ((s.lineLoad r).1, (s.lineLoad r).2.record (.ld win off (s.lineLoad r).1))

/-- `RegRead(win, off)` (R64): one load, whose value is the result. -/
def State.regRead (s : State) (win : Window) (off : Nat) : Except Fault (Word × State) :=
  match s.cfg.regAt win off with
  | none => .error (.noRegister win off)
  | some r => .ok (s.loadReg r win off)

/-- The store half of `RegWrite` to a register: the line reacts to it, and the register holds the whole word. -/
def State.storeReg (s : State) (r : Reg) (v : Word) : State := (s.lineStore r v).setReg r v

/-- `RegWrite(win, off, v)` (R64): one store, followed at once by one load of the same offset, whose value is
discarded and never compared with `v`. `STATUS` and `IND` are read-only for the controller (R32, R33). -/
def State.regWrite (s : State) (win : Window) (off : Nat) (v : Word) : Except Fault State :=
  match s.cfg.regAt win off with
  | none => .error (.noRegister win off)
  | some .status => .error (.readOnly win off)
  | some .ind => .error (.readOnly win off)
  | some r => .ok (((s.storeReg r v).record (.st win off v)).loadReg r win off).2

/-- `Delay(us)` (R16): time passes; the controller's state does not change. -/
def State.delay (s : State) (us : Nat) : State := s.record (.delay us)

/-- `ClkQuery()` (R16): the clock provider's answer. -/
def State.clkQuery (s : State) : Option Nat × State :=
  (s.drawClk.1, s.drawClk.2.record (.clkQuery s.drawClk.1))

/-- A request reaches `SEL`, whose sequencer runs from here to its response (R39). -/
def State.openSel (s : State) (i : Instr) : State := { s.record (.req i) with selSeq := .running }

/-- A request reaches `MDC`, whose sequencer stands before the operation's first micro-step (R39). -/
def State.openMdc (s : State) (i : Instr) (q : MdioSeq) : State := { s.record (.req i) with mdioSeq := q }

/-- The end of a selector operation: the sequencer is `Idle` and the response is sent; nothing is saved, nothing else
changes (R213, R216). -/
def State.answerSel (s : State) (r : Result) : State :=
  { s.record (.resp (some .sel) r) with selSeq := .idle }

/-- The end of an MDIO operation: the sequencer is `Idle` and the response is sent; nothing is saved, nothing else
changes (R213, R216). -/
def State.answerMdc (s : State) (r : Result) : State :=
  { s.record (.resp (some .mdc) r) with mdioSeq := .idle }

/-- From here on a `reset` has answered OK since power-on (70_reset_and_hazards.md R242, R243). -/
def State.markReset (s : State) : State := { s with resetDone := true }

/-- The open MDIO operation goes on at a position. -/
def State.goTo (s : State) (q : MdioSeq) : State := { s with mdioSeq := q }

/-- An illegal request word is answered InvalidArgument: no access, no state change (30_encoding.md R97). -/
def State.answerIllegal (s : State) (w : RequestWord) : State :=
  (s.record (.reqIllegal w)).record (.resp none (.error .invalidArgument))

end Sys2Proof.Machine
end

