-- ==== Sys2Proof/Machine/Mdio.lean ====
section
/-! DEFINITION. The five MdioController operations (41_mdio_controller.md R150 to R170). A step is one micro-step of
the open operation: a load, a store with its read-back, a delay, a clock query (10_state.md R39, 92_eei_decisions.md
D33). A meaning accepts its request when the sequencer is idle and makes the first micro-step; when its own operation
is open, with the same operands, it makes the next one. -/

namespace Sys2Proof.Machine

/-! ## wait_not_busy, alone and inside read and write -/

/-- How one micro-step of a wait leaves it. -/
inductive WaitResult where
  | again (pos : WaitPos)
  | notBusy
  | timedOut
deriving DecidableEq, Repr

/-- One micro-step of `wait_not_busy` (R156): with no polls left the diagnostic and Timeout; otherwise an Indicator
load, which ends the wait if the busy bit is clear; after a busy load a delay. -/
def State.waitStep (s : State) (pos : WaitPos) : Except Fault (WaitResult × State) :=
  match pos with
  | .poll 0 => .ok (.timedOut, s.record .diag)
  | .poll (n + 1) =>
    match s.regRead .mdiowin s.cfg.indOff with
    | .error f => .error f
    | .ok (v, t) => .ok (if s.cfg.busyIn v then .again (.delay n) else .notBusy, t)
  | .delay n => .ok (.again (.poll n), s.delay s.cfg.pollDelayUs)

/-- The first position of a wait: the whole budget is left (R156). -/
def Config.fullWait (c : Config) : WaitPos := .poll c.retryBudget

/-! ## The micro-steps of each operation -/

/-- A micro-step that is one `RegWrite` to `MDIOWIN`, then the continuation. -/
def State.storeThen (s : State) (off : Nat) (v : Word) (next : State → State) : Except Fault State :=
  match s.regWrite .mdiowin off v with
  | .error f => .error f
  | .ok t => .ok (next t)

/-- A micro-step of a wait, then one of three continuations. -/
def State.waitThen (s : State) (pos : WaitPos) (again : WaitPos → MdioSeq) (notBusy timedOut : State → State) :
    Except Fault State :=
  match s.waitStep pos with
  | .error f => .error f
  | .ok (w, t) =>
    .ok <| match w with
      | .again q => t.goTo (again q)
      | .notBusy => notBusy t
      | .timedOut => timedOut t

/-- `reset` after the clock's answer: `ref_rate` takes it, and the divider search decides (R154, R155). -/
def State.resetWithClock (s : State) (answer : Option Nat) : State :=
  let t := { s with refRate := answer }
  match s.cfg.divider answer with
  | none => t.answerMdc (.error .hardwareFault)
  | some d => t.goTo (.reset (.assert d))

/-- One micro-step of `reset` (R154). -/
def State.resetStep (s : State) (pos : ResetPos) : Except Fault State :=
  match pos with
  | .query => .ok (s.clkQuery.2.resetWithClock s.clkQuery.1)
  | .assert d =>
    s.storeThen s.cfg.cfgOff (BitVec.ofNat 32 d ||| s.cfg.resetBit) fun t => t.goTo (.reset (.settleAsserted d))
  | .settleAsserted d => .ok ((s.delay s.cfg.resetSettleUs).goTo (.reset (.release d)))
  | .release d =>
    s.storeThen s.cfg.cfgOff (BitVec.ofNat 32 d) fun t => t.goTo (.reset .settleReleased)
  | .settleReleased => .ok ((s.delay s.cfg.resetSettleUs).markReset.answerMdc .ok)

/-- One micro-step of `wait_not_busy` as an operation (R156). -/
def State.waitOpStep (s : State) (pos : WaitPos) : Except Fault State :=
  s.waitThen pos .waitNotBusy (fun t => t.answerMdc .ok) fun t => t.answerMdc (.error .timeout)

/-- One micro-step of `read` (R158, R159). -/
def State.readStep (s : State) (a r : Half) (pos : ReadPos) : Except Fault State :=
  match pos with
  | .firstWait w =>
    s.waitThen w (fun q => .read a r (.firstWait q)) (fun t => t.goTo (.read a r .storeIdle))
      fun t => t.answerMdc (.error .timeout)
  | .storeIdle => s.storeThen s.cfg.cmdOff s.cfg.cmdWrite fun t => t.goTo (.read a r .storeAddr)
  | .storeAddr => s.storeThen s.cfg.addrOff (packAddr a r) fun t => t.goTo (.read a r .storeRead)
  | .storeRead =>
    s.storeThen s.cfg.cmdOff s.cfg.cmdRead fun t => t.goTo (.read a r (.secondWait (Config.fullWait t.cfg)))
  | .secondWait w =>
    s.waitThen w (fun q => .read a r (.secondWait q)) (fun t => t.goTo (.read a r .loadStatus))
      fun t => t.goTo (.read a r .abort)
  | .abort => s.storeThen s.cfg.cmdOff s.cfg.cmdWrite fun t => t.answerMdc (.error .timeout)
  | .loadStatus =>
    match s.regRead .mdiowin s.cfg.statusOff with
    | .error f => .error f
    | .ok (w, t) => .ok (t.goTo (.read a r (.storeBack (dataField w))))
  | .storeBack v =>
    s.storeThen s.cfg.cmdOff s.cfg.cmdWrite fun t =>
      (t.record (.log (maskOctet a) (maskOctet r) v)).answerMdc (.okValue v.toNat)

/-- One micro-step of `write` (R161). -/
def State.writeStep (s : State) (a r v : Half) (pos : WritePos) : Except Fault State :=
  match pos with
  | .storeAddr => s.storeThen s.cfg.addrOff (packAddr a r) fun t => t.goTo (.write a r v .storeCtrl)
  | .storeCtrl =>
    s.storeThen s.cfg.ctrlOff (zextWord v) fun t =>
      (t.record (.log (maskOctet a) (maskOctet r) v)).goTo (.write a r v (.finalWait (Config.fullWait t.cfg)))
  | .finalWait w =>
    s.waitThen w (fun q => .write a r v (.finalWait q)) (fun t => t.answerMdc .ok)
      fun t => t.answerMdc (.error .timeout)

/-! ## The meanings -/

/-- `compute_divider()` (R150): reads the latch `ref_rate`, makes no access, is one micro-step. -/
def execComputeDivider (s : State) : Answer :=
  match s.mdioSeq with
  | .idle =>
    match s.cfg.divider s.refRate with
    | none => .next ((s.openMdc .computeDivider .idle).answerMdc (.error .hardwareFault))
    | some d => .next ((s.openMdc .computeDivider .idle).answerMdc (.okValue d))
  | _ => .refused (.componentBusy .mdc)

/-- `reset()` (R154). -/
def execReset (s : State) : Answer :=
  match s.mdioSeq with
  | .idle => answerOf ((s.openMdc .reset (.reset .query)).resetStep .query)
  | .reset pos => answerOf (s.resetStep pos)
  | _ => .refused (.componentBusy .mdc)

/-- `wait_not_busy()` (R156). -/
def execWaitNotBusy (s : State) : Answer :=
  match s.mdioSeq with
  | .idle => answerOf ((s.openMdc .waitNotBusy (.waitNotBusy (Config.fullWait s.cfg))).waitOpStep (Config.fullWait s.cfg))
  | .waitNotBusy pos => answerOf (s.waitOpStep pos)
  | _ => .refused (.componentBusy .mdc)

/-- `read(phy_address, register)` (R158). -/
def execRead (a r : Half) (s : State) : Answer :=
  match s.mdioSeq with
  | .idle =>
    let pos := ReadPos.firstWait (Config.fullWait s.cfg)
    answerOf ((s.openMdc (.read a r) (.read a r pos)).readStep a r pos)
  | .read a' r' pos => if a' = a ∧ r' = r then answerOf (s.readStep a r pos) else .refused (.componentBusy .mdc)
  | _ => .refused (.componentBusy .mdc)

/-- `write(phy_address, register, value)` (R161). -/
def execWrite (a r v : Half) (s : State) : Answer :=
  match s.mdioSeq with
  | .idle => answerOf ((s.openMdc (.write a r v) (.write a r v .storeAddr)).writeStep a r v .storeAddr)
  | .write a' r' v' pos =>
    if a' = a ∧ r' = r ∧ v' = v then answerOf (s.writeStep a r v pos) else .refused (.componentBusy .mdc)
  | _ => .refused (.componentBusy .mdc)

end Sys2Proof.Machine
end

