-- ==== Sys2Proof/Machine/Selector.lean ====
section
/-! DEFINITION. The two InterfaceSelector operations (40_interface_selector.md R120 to R138). Each is one step: no
other agent reads or writes a `MIICTRL` word (10_state.md R39, 20_memory.md R73). -/

namespace Sys2Proof.Machine

/-- The shape of both operations (R120, R122, R134): the port bound before any access, then one load, then the checks,
then at most one store. `newWord` is the word to store, none if a check fails. -/
def State.selectorOp (s : State) (p : Nat) (newWord : Word → Option Word) : Except Fault State :=
  if s.cfg.portCount ≤ p then .ok (s.answerSel (.error .invalidArgument))
  else
    match s.regRead .selwin (s.cfg.portOffset p) with
    | .error f => .error f
    | .ok (w, t) =>
      match newWord w with
      | none => .ok (t.answerSel (.error .invalidArgument))
      | some v =>
        match t.regWrite .selwin (t.cfg.portOffset p) v with
        | .error f => .error f
        | .ok u => .ok (u.answerSel .ok)

/-- `set_interface_mode(port_index, requested_mode)` (R123). -/
def execSetInterfaceMode (port : Half) (mode : ModeOperand) (s : State) : Answer :=
  match s.selSeq with
  | .running => .refused (.componentBusy .sel)
  | .idle =>
    answerOf ((s.openSel (.setInterfaceMode port mode)).selectorOp port.toNat (s.cfg.modeWord port.toNat mode))

/-- `set_link_speed(port_index, requested_speed_mbps)` (R130). -/
def execSetLinkSpeed (port : Half) (mbps : Half) (s : State) : Answer :=
  match s.selSeq with
  | .running => .refused (.componentBusy .sel)
  | .idle =>
    answerOf ((s.openSel (.setLinkSpeed port mbps)).selectorOp port.toNat (s.cfg.linkWord port.toNat mbps))

end Sys2Proof.Machine
end

