-- ==== Sys2Proof/Machine/Dispatch.lean ====
section
/-! DEFINITION. One arm per operation (30_encoding.md R90). -/

namespace Sys2Proof.Machine

def exec (i : Instr) (s : State) : Host.Outcome State Fault Refusal :=
  match i with
  | .setInterfaceMode p m => Sys2Proof.Machine.execSetInterfaceMode p m s
  | .setLinkSpeed p v => Sys2Proof.Machine.execSetLinkSpeed p v s
  | .computeDivider => Sys2Proof.Machine.execComputeDivider s
  | .reset => Sys2Proof.Machine.execReset s
  | .waitNotBusy => Sys2Proof.Machine.execWaitNotBusy s
  | .read a r => Sys2Proof.Machine.execRead a r s
  | .write a r v => Sys2Proof.Machine.execWrite a r v s

end Sys2Proof.Machine
end

