-- ==== Sys2Proof/WellFormed.lean ====
section
/-! DEFINITION. Which operations are the reading of some request word. Every operand field of a legal word may hold
any value (30_encoding.md R98: an illegal operand value inside a legal word is answered by the operation itself), so
the one check is that `mode#<n>` spells a value with no name of its own, n > 3 (R94, R101). -/

namespace Sys2Proof

/-- `mode#<n>` is written only for n > 3; 0 to 3 have names (R94, R101). -/
def ModeOperand.wf : ModeOperand → Bool
  | .named _ => true
  | .unnamed n => decide (3 < n.toNat)

/-- The operation has exactly one request word (R91, R92). -/
def Instr.wf : Instr → Bool
  | .setInterfaceMode _ m => m.wf
  | .setLinkSpeed _ _ => true
  | .computeDivider => true
  | .reset => true
  | .waitNotBusy => true
  | .read _ _ => true
  | .write _ _ _ => true

end Sys2Proof
end

