-- ==== Sys2Proof/Decode.lean ====
section
/-! DEFINITION. Request words: decoder and encoder (30_encoding.md R91 to R100), and the textual syntax of an
operation, printed and read (R101). One fixed-length format, no prefix, no compressed form, no mode bit (R100). -/

namespace Sys2Proof

/-- Why a request word is illegal (R97). -/
inductive Illegal where
  /-- `OPC` is not one of the seven codes. -/
  | unknownOpcode
  /-- The field `Z` is not zero. -/
  | nonzeroZ
  /-- An operand field the operation does not use is not zero. -/
  | nonzeroUnused
deriving DecidableEq, Repr

/-- What a request word spells: one of the seven operations, or an illegal word with its reason (R97). -/
inductive Decoded where
  | op (i : Instr)
  | illegal (why : Illegal)
deriving DecidableEq, Repr

/-- The fields of format `Q` (R91). -/
def opcField (w : RequestWord) : Octet := w.extractLsb' 56 8
def zField (w : RequestWord) : Octet := w.extractLsb' 48 8
def aField (w : RequestWord) : Half := w.extractLsb' 32 16
def bField (w : RequestWord) : Half := w.extractLsb' 16 16
def cField (w : RequestWord) : Half := w.extractLsb' 0 16

/-- The `requested_mode` field: 0 GMII, 1 MII, 2 RGMII, 3 RMII, any other value names no mode (R94). -/
def modeOfField (b : Half) : ModeOperand :=
  if b = 0#16 then .named .gmii
  else if b = 1#16 then .named .mii
  else if b = 2#16 then .named .rgmii
  else if b = 3#16 then .named .rmii
  else .unnamed b

/-- The field value of a mode operand (R94). -/
def fieldOfMode : ModeOperand → Half
  | .named .gmii => 0#16
  | .named .mii => 1#16
  | .named .rgmii => 2#16
  | .named .rmii => 3#16
  | .unnamed n => n

/-- The operation `i` if the operand fields it does not use are zero (R91, R97). -/
def ifUnusedZero (unused : Bool) (i : Instr) : Decoded :=
  if unused then .op i else .illegal .nonzeroUnused

/-- The operation an operation code selects, with its operands from the fields A, B, C (R92). -/
def decodeFields (opc : Octet) (a b c : Half) : Decoded :=
  if opc = 0x01#8 then ifUnusedZero (c == 0#16) (.setInterfaceMode a (modeOfField b))
  else if opc = 0x02#8 then ifUnusedZero (c == 0#16) (.setLinkSpeed a b)
  else if opc = 0x10#8 then ifUnusedZero (a == 0#16 && b == 0#16 && c == 0#16) .computeDivider
  else if opc = 0x11#8 then ifUnusedZero (a == 0#16 && b == 0#16 && c == 0#16) .reset
  else if opc = 0x12#8 then ifUnusedZero (a == 0#16 && b == 0#16 && c == 0#16) .waitNotBusy
  else if opc = 0x13#8 then ifUnusedZero (c == 0#16) (.read a b)
  else if opc = 0x14#8 then .op (.write a b c)
  else .illegal .unknownOpcode

/-- The decoder: total, one of the seven operations or illegal (R97). -/
def decode (w : RequestWord) : Decoded :=
  if zField w = 0#8 then decodeFields (opcField w) (aField w) (bField w) (cField w)
  else .illegal .nonzeroZ

/-- The operation code of an operation (R92). -/
def Instr.opcode : Instr → Octet
  | .setInterfaceMode _ _ => 0x01#8
  | .setLinkSpeed _ _ => 0x02#8
  | .computeDivider => 0x10#8
  | .reset => 0x11#8
  | .waitNotBusy => 0x12#8
  | .read _ _ => 0x13#8
  | .write _ _ _ => 0x14#8

/-- The operand fields A, B, C of an operation, zero where it uses none (R92). -/
def Instr.fieldA : Instr → Half
  | .setInterfaceMode p _ => p
  | .setLinkSpeed p _ => p
  | .computeDivider => 0#16
  | .reset => 0#16
  | .waitNotBusy => 0#16
  | .read a _ => a
  | .write a _ _ => a

@[inherit_doc Instr.fieldA]
def Instr.fieldB : Instr → Half
  | .setInterfaceMode _ m => fieldOfMode m
  | .setLinkSpeed _ s => s
  | .computeDivider => 0#16
  | .reset => 0#16
  | .waitNotBusy => 0#16
  | .read _ r => r
  | .write _ r _ => r

@[inherit_doc Instr.fieldA]
def Instr.fieldC : Instr → Half
  | .setInterfaceMode _ _ => 0#16
  | .setLinkSpeed _ _ => 0#16
  | .computeDivider => 0#16
  | .reset => 0#16
  | .waitNotBusy => 0#16
  | .read _ _ => 0#16
  | .write _ _ v => v

/-- The request word with the given fields, `Z` zero (R91). -/
def packQ (opc : Octet) (a b c : Half) : RequestWord :=
  (opc.setWidth 64 <<< 56) ||| (a.setWidth 64 <<< 32) ||| (b.setWidth 64 <<< 16) ||| c.setWidth 64

/-- The request word of an operation (R91, R92). -/
def encode (i : Instr) : RequestWord := packQ i.opcode i.fieldA i.fieldB i.fieldC

/-- The operation the decoder reads from a table word: every row of the table is one 64-bit word, so `nbits` above 64
or a number that does not fit in 64 bits is no request. -/
def decodeTableWord (nbits w : Nat) : Option Instr :=
  if nbits ≤ 64 ∧ w < 2 ^ 64 then
    match decode (BitVec.ofNat 64 w) with
    | .op i => some i
    | .illegal _ => none
  else none

/-! ## Textual syntax (R101) -/

/-- A number in decimal. -/
def decimalText (n : Half) : List Char := Nat.toDigits 10 n.toNat

/-- The mode operand as R101 writes it. -/
def ModeOperand.text : ModeOperand → List Char
  | .named .gmii => "GMII".toList
  | .named .mii => "MII".toList
  | .named .rgmii => "RGMII".toList
  | .named .rmii => "RMII".toList
  | .unnamed n => "mode#".toList ++ decimalText n

/-- ABL's name of the operation, which is also its mnemonic in spec/opcode_table.json (R90, R101). -/
def Instr.mnemonic : Instr → String
  | .setInterfaceMode _ _ => "set_interface_mode"
  | .setLinkSpeed _ _ => "set_link_speed"
  | .computeDivider => "compute_divider"
  | .reset => "reset"
  | .waitNotBusy => "wait_not_busy"
  | .read _ _ => "read"
  | .write _ _ _ => "write"

/-- The operands of the operation as text, in ABL's order (R101). -/
def Instr.operandTexts : Instr → List (List Char)
  | .setInterfaceMode p m => [decimalText p, m.text]
  | .setLinkSpeed p s => [decimalText p, decimalText s]
  | .computeDivider => []
  | .reset => []
  | .waitNotBusy => []
  | .read a r => [decimalText a, decimalText r]
  | .write a r v => [decimalText a, decimalText r, decimalText v]

/-- One line of the textual syntax: the name, then the operands in parentheses, separated by commas (R101). -/
def Instr.text (i : Instr) : List Char :=
  i.mnemonic.toList ++ ['('] ++ (i.operandTexts.intersperse [',', ' ']).flatten ++ [')']

/-- The value of a digit below `base`, either case for hexadecimal letters. -/
def digitValue (base : Nat) (c : Char) : Option Nat :=
  let n := c.toNat
  let v := if 48 ≤ n ∧ n ≤ 57 then n - 48
    else if 97 ≤ n ∧ n ≤ 102 then n - 87
    else if 65 ≤ n ∧ n ≤ 70 then n - 55
    else base
  if v < base then some v else none

/-- The digits after `acc`, most significant first. -/
def parseDigits (base : Nat) : Nat → List Char → Option Nat
  | acc, [] => some acc
  | acc, c :: cs =>
    match digitValue base c with
    | some d => parseDigits base (acc * base + d) cs
    | none => none

/-- A number: decimal, or hexadecimal with `0x` (R101). At least one digit, and it must fit its 16-bit field. -/
def parseNumber (cs : List Char) : Option Half :=
  let n := match cs with
    | '0' :: 'x' :: c :: rest => parseDigits 16 0 (c :: rest)
    | [] => none
    | c :: rest => parseDigits 10 0 (c :: rest)
  match n with
  | some v => if v < 65536 then some (BitVec.ofNat 16 v) else none
  | none => none

/-- A mode operand: one of the four names, or `mode#<n>` with n > 3 (R101). -/
def parseMode (cs : List Char) : Option ModeOperand :=
  if cs = "GMII".toList then some (.named .gmii)
  else if cs = "MII".toList then some (.named .mii)
  else if cs = "RGMII".toList then some (.named .rgmii)
  else if cs = "RMII".toList then some (.named .rmii)
  else match cs with
    | 'm' :: 'o' :: 'd' :: 'e' :: '#' :: n =>
      match parseNumber n with
      | some v => if 3 < v.toNat then some (.unnamed v) else none
      | none => none
    | _ => none

/-- The pieces of a character list between commas. -/
def splitCommas : List Char → List (List Char)
  | [] => [[]]
  | c :: cs =>
    match splitCommas cs with
    | [] => [[]]
    | piece :: pieces => if c = ',' then [] :: piece :: pieces else (c :: piece) :: pieces

/-- The operation with this name and these operand texts, if there is one (R101). -/
def parseOperation (name : List Char) (operands : List (List Char)) : Option Instr :=
  if name = "set_interface_mode".toList then
    match operands with
    | [p, m] => do return .setInterfaceMode (← parseNumber p) (← parseMode m)
    | _ => none
  else if name = "set_link_speed".toList then
    match operands with
    | [p, v] => do return .setLinkSpeed (← parseNumber p) (← parseNumber v)
    | _ => none
  else if name = "compute_divider".toList then if operands = [[]] then some .computeDivider else none
  else if name = "reset".toList then if operands = [[]] then some .reset else none
  else if name = "wait_not_busy".toList then if operands = [[]] then some .waitNotBusy else none
  else if name = "read".toList then
    match operands with
    | [a, r] => do return .read (← parseNumber a) (← parseNumber r)
    | _ => none
  else if name = "write".toList then
    match operands with
    | [a, r, v] => do return .write (← parseNumber a) (← parseNumber r) (← parseNumber v)
    | _ => none
  else none

/-- One line of a program: an operation, optionally followed by `-> <expected result>`, which is dropped (R101).
Spaces are ignored. -/
def parseLine (line : List Char) : Option Instr :=
  let code := (line.takeWhile (· ≠ '-')).filter (· ≠ ' ')
  let name := code.takeWhile (· ≠ '(')
  match code.drop name.length with
  | _ :: rest => if rest.getLast? = some ')' then parseOperation name (splitCommas rest.dropLast) else none
  | [] => none

end Sys2Proof
end

