-- ==== Sys2Proof/Machine/Fetch.lean ====
section
/-! DEFINITION. Who moves next (00_scope.md R18, 70_reset_and_hazards.md R257): `HOST` issues its next request, or
`MDC` goes on with its open operation, or nobody has anything to do. There is no program counter and no stored program
(10_state.md R22); a program is the list of requests (30_encoding.md R101). -/

namespace Sys2Proof.Machine

/-- What the step is. -/
inductive Turn where
  /-- An operation makes its step: a request just issued, or the open one. -/
  | run (i : Instr) (s : State)
  /-- The step is already done: an illegal word was answered, or no agent but LINE had anything to do. -/
  | done (s : State)
  /-- `HOST` issued a request the spec gives no meaning (R70). -/
  | refuse (r : Refusal)
deriving DecidableEq, Repr

/-- The component an operation belongs to: codes 0x01 and 0x02 go to `SEL`, 0x10 to 0x14 to `MDC` (R92). -/
def componentOf : Instr → Component
  | .setInterfaceMode _ _ => .sel
  | .setLinkSpeed _ _ => .sel
  | .computeDivider => .mdc
  | .reset => .mdc
  | .waitNotBusy => .mdc
  | .read _ _ => .mdc
  | .write _ _ _ => .mdc

/-- The open MDIO operation, with its operands. -/
def MdioSeq.instr : MdioSeq → Option Instr
  | .idle => none
  | .reset _ => some .reset
  | .waitNotBusy _ => some .waitNotBusy
  | .read a r _ => some (.read a r)
  | .write a r v _ => some (.write a r v)

/-- `MDC` goes on with its open operation; with none open there is nothing to do. -/
def State.goOn (s : State) : Turn :=
  match s.mdioSeq.instr with
  | some i => .run i s
  | none => .done s

/-- `HOST` issues a request word (R97, R70): an illegal word is answered at once; a request to `MDC` while its sequencer
is running has no meaning. -/
def State.issue (s : State) (w : RequestWord) : Turn :=
  match decode w with
  | .illegal _ => .done (s.answerIllegal w)
  | .op i => if componentOf i = .mdc ∧ s.mdioSeq ≠ .idle then .refuse (.componentBusy .mdc) else .run i s

/-- Who moves: the next request if it is due, else the open operation. A request that waits for the response before it
is due when no MDIO operation is open (R101); one that overlaps is due when its steps have passed (R70, R257). -/
def State.turn (s : State) : Turn :=
  match s.requests with
  | [] => s.goOn
  | q :: qs =>
    match q.overlap with
    | none => if s.mdioSeq = .idle then { s with requests := qs }.issue q.word else s.goOn
    | some 0 => { s with requests := qs }.issue q.word
    | some (n + 1) => { s with requests := { q with overlap := some n } :: qs }.goOn

/-- A program (R101): its operations in order, each issued after the response to the one before. -/
def programRequests (ops : List Instr) : List Request := ops.map fun i => { word := encode i, overlap := none }

/-- The state with a request word placed where the next step takes its request from, both sequencers idle. -/
def State.withRequest (s : State) (w : RequestWord) : State :=
  { s with requests := { word := w, overlap := none } :: s.requests, selSeq := .idle, mdioSeq := .idle }

end Sys2Proof.Machine
end

