-- ==== Sys2Proof/Machine/Step.lean ====
section
/-! DEFINITION. One step of the machine: LINE's opportunity (42_mdio_device_side.md R195), then the turn of `HOST`,
`SEL` or `MDC`. -/

namespace Sys2Proof.Machine

/-- One step. A configuration that breaks a constraint is refused (60_exceptions.md R227). -/
def step (s : State) : Host.Outcome State Fault Refusal :=
  if s.cfg.Valid then
    match s.lineTurn.turn with
    | .run i t => exec i t
    | .done t => .next t
    | .refuse r => .refused r
  else .refused .badConfiguration

/-- The state whose next step takes the table's word as its request (log 9). -/
def State.withFetchWord (s : State) (_nbits w : Nat) : State := s.withRequest (BitVec.ofNat 64 w)

end Sys2Proof.Machine
end

