-- ==== Sys2Proof/Safety.lean ====
section
/-! DEFINITION. What claims are stated in: runs, the named premises of 10_state.md R42, the invariants of the machine,
the end of a run (70_reset_and_hazards.md R258), and readings of the history (00_scope.md R19). -/

namespace Sys2Proof.Machine

/-! ## Runs -/

/-- `k` steps, stopping at the first fault or refusal. -/
def runSteps : Nat → State → Answer
  | 0, s => .next s
  | k + 1, s =>
    match step s with
    | .next t => runSteps k t
    | .fault f => .fault f
    | .refused r => .refused r

/-- The run has ended: the last request has been answered and both sequencers are idle (R258). -/
abbrev State.RunEnded (s : State) : Prop := s.requests = [] ∧ s.selSeq = .idle ∧ s.mdioSeq = .idle

/-- A final state is good only if `line.fault` is false (R258). -/
abbrev State.GoodEnd (s : State) : Prop := s.RunEnded ∧ s.lineFault = false

/-- Every request still to be issued waits for the response before it (R101). -/
abbrev State.SerialHost (s : State) : Prop := ∀ q ∈ s.requests, q.overlap = none

/-! ## The premises of R42 -/

abbrev State.InvCmdIdle (s : State) : Prop := s.cmd = s.cfg.cmdWrite
abbrev State.InvNotBusy (s : State) : Prop := s.cfg.busyIn s.ind = false ∧ s.pending = none
abbrev State.InvSeqIdle (s : State) : Prop := s.selSeq = .idle ∧ s.mdioSeq = .idle
abbrev State.InvNoLineFault (s : State) : Prop := s.lineFault = false

/-! ## Invariants of the machine -/

/-- The busy bit is set exactly when a cycle is in flight, on the levels that have a line (R192). -/
abbrev State.BusyFollowsPending (s : State) : Prop :=
  s.level = .openLine ∨ (s.cfg.busyIn s.ind = true ↔ s.pending ≠ none)

/-- The polls a position may still make. -/
def WaitPos.pollsLeft : WaitPos → Nat
  | .poll n => n
  | .delay n => n

/-- The position of a wait inside the open operation, if it is in one. -/
def MdioSeq.waitPos : MdioSeq → Option WaitPos
  | .idle => none
  | .reset _ => none
  | .waitNotBusy w => some w
  | .read _ _ (.firstWait w) => some w
  | .read _ _ (.secondWait w) => some w
  | .read _ _ .storeIdle => none
  | .read _ _ .storeAddr => none
  | .read _ _ .storeRead => none
  | .read _ _ .abort => none
  | .read _ _ .loadStatus => none
  | .read _ _ (.storeBack _) => none
  | .write _ _ _ (.finalWait w) => some w
  | .write _ _ _ .storeAddr => none
  | .write _ _ _ .storeCtrl => none

/-- The divider an open `reset` carries, if it has found one. -/
def MdioSeq.dividerHeld : MdioSeq → Option Nat
  | .reset (.assert d) => some d
  | .reset (.settleAsserted d) => some d
  | .reset (.release d) => some d
  | .reset .query => none
  | .reset .settleReleased => none
  | .idle => none
  | .waitNotBusy _ => none
  | .read _ _ _ => none
  | .write _ _ _ _ => none

/-- The open operation is a `read` between the end of step 1 and the store that starts its cycle (R158). -/
def MdioSeq.arming : MdioSeq → Bool
  | .read _ _ .storeIdle => true
  | .read _ _ .storeAddr => true
  | .read _ _ .storeRead => true
  | _ => false

/-- The open operation is a `read` that has put the latch into READ-mode and not yet stored it back (R160). -/
def MdioSeq.latchHeld : MdioSeq → Bool
  | .read _ _ (.secondWait _) => true
  | .read _ _ .abort => true
  | .read _ _ .loadStatus => true
  | .read _ _ (.storeBack _) => true
  | _ => false

/-- No wait has more polls left than the budget (R156), and an open `reset` carries an entry of the table (R150). -/
abbrev State.PositionOk (s : State) : Prop :=
  (∀ w ∈ s.mdioSeq.waitPos, w.pollsLeft ≤ s.cfg.retryBudget) ∧
    ∀ d ∈ s.mdioSeq.dividerHeld, d ∈ s.cfg.dividerTable

/-- A `read` arms its cycle only while no cycle is in flight: its step 1 saw the busy bit clear (R158, R168). Before the
first successful `reset` step 1 may see any word (R243). -/
abbrev State.ArmsIdleLine (s : State) : Prop :=
  s.level = .openLine ∨ s.resetDone = false ∨ (s.mdioSeq.arming = true → s.pending = none)

/-- The invariant of the machine. -/
abbrev State.Inv (s : State) : Prop :=
  s.cfg.Valid ∧ Memory.wf s.phy = true ∧ s.BusyFollowsPending ∧ s.selSeq = .idle ∧ s.PositionOk ∧ s.ArmsIdleLine

/-- The code in the speed field of port `p`'s word (R26). -/
def State.speedCode (s : State) (p : Nat) : Word := (s.portWord p >>> s.cfg.speedShift) &&& s.cfg.speedMask

/-- R136 (a) to (c) of port `p`'s word: nothing outside the two fields (on port 1 the select field is one bit), and an
odd select code goes with a speed code of 0 or 1. -/
abbrev State.PortWordOk (s : State) (p : Nat) : Prop :=
  s.portWord p &&& ~~~((selectMask p <<< s.cfg.selectShift) ||| (s.cfg.speedMask <<< s.cfg.speedShift)) = 0#32 ∧
    ((s.portWord p >>> s.cfg.selectShift) &&& 1#32 = 1#32 → s.speedCode p ≤ 1#32)

/-- The command latch holds `CMD_WRITE`, but for a `read` that has started its cycle and not yet ended (R160, R166). -/
abbrev State.CommandLatch (s : State) : Prop :=
  s.cmd = s.cfg.cmdWrite ∨ (s.mdioSeq.latchHeld = true ∧ s.cmd = s.cfg.cmdRead)

/-! ## How long an operation can go on (R164) -/

/-- The most micro-steps a wait can still make. -/
def WaitPos.stepsLeft : WaitPos → Nat
  | .poll n => 2 * n + 1
  | .delay n => 2 * n + 2

/-- The most micro-steps the open operation can still make, with the given retry budget. -/
def MdioSeq.stepsLeft (budget : Nat) : MdioSeq → Nat
  | .idle => 0
  | .reset .query => 5
  | .reset (.assert _) => 4
  | .reset (.settleAsserted _) => 3
  | .reset (.release _) => 2
  | .reset .settleReleased => 1
  | .waitNotBusy w => w.stepsLeft
  | .read _ _ (.firstWait w) => w.stepsLeft + (2 * budget + 6)
  | .read _ _ .storeIdle => 2 * budget + 6
  | .read _ _ .storeAddr => 2 * budget + 5
  | .read _ _ .storeRead => 2 * budget + 4
  | .read _ _ (.secondWait w) => w.stepsLeft + 2
  | .read _ _ .abort => 1
  | .read _ _ .loadStatus => 2
  | .read _ _ (.storeBack _) => 1
  | .write _ _ _ .storeAddr => 2 * budget + 3
  | .write _ _ _ .storeCtrl => 2 * budget + 2
  | .write _ _ _ (.finalWait w) => w.stepsLeft

/-! ## Readings of the history -/

/-- The result an event delivers, if it is a response. -/
def Event.result : Event → Option Result
  | .resp _ r => some r
  | _ => none

/-- The word of an Indicator load, if the event is one. -/
def Event.indWord (c : Config) : Event → Option Word
  | .ld .mdiowin off v => if off = c.indOff then some v else none
  | _ => none

/-- The results an operation may return (60_exceptions.md R212). -/
def resultAllowed (i : Instr) (r : Result) : Bool :=
  match i, r with
  | .setInterfaceMode _ _, .ok => true
  | .setInterfaceMode _ _, .error .invalidArgument => true
  | .setLinkSpeed _ _, .ok => true
  | .setLinkSpeed _ _, .error .invalidArgument => true
  | .computeDivider, .okValue _ => true
  | .computeDivider, .error .hardwareFault => true
  | .reset, .ok => true
  | .reset, .error .hardwareFault => true
  | .waitNotBusy, .ok => true
  | .waitNotBusy, .error .timeout => true
  | .read _ _, .okValue v => decide (v < 65536)
  | .read _ _, .error .timeout => true
  | .write _ _ _, .ok => true
  | .write _ _ _, .error .timeout => true
  | _, _ => false

/-! ## What the micro-steps of a wait answer (R156) -/

/-- The three micro-steps of the wait of operation `i` whose positions are `pos`: a delay, the end of the budget, a
load of `IND`, whose word and whose effect on the line are `State.lineLoad`'s. `done` and `timedOut` say how the operation
goes on. -/
def WaitAnswers (i : Instr) (pos : WaitPos → MdioSeq) (done timedOut : State → State) : Prop :=
  ∀ s : State, s.cfg.Valid →
    (∀ n, s.mdioSeq = pos (.delay n) →
      exec i s = .next { s with mdioSeq := pos (.poll n), history := s.history ++ [.delay s.cfg.pollDelayUs] }) ∧
    (s.mdioSeq = pos (.poll 0) → exec i s = .next (timedOut { s with history := s.history ++ [.diag] })) ∧
    ∀ n, s.mdioSeq = pos (.poll (n + 1)) →
      exec i s = .next
        (if (s.lineLoad .ind).1 &&& s.cfg.indBusy = 0#32 then
          done { (s.lineLoad .ind).2 with history := s.history ++ [.ld .mdiowin s.cfg.indOff (s.lineLoad .ind).1] }
        else
          { (s.lineLoad .ind).2 with
            mdioSeq := pos (.delay n)
            history := s.history ++ [.ld .mdiowin s.cfg.indOff (s.lineLoad .ind).1] })

/-- The operation ends with this result: sequencer idle, response sent. -/
def endsWith (r : Result) (s : State) : State :=
  { s with mdioSeq := .idle, history := s.history ++ [.resp (some .mdc) r] }

/-- The position of the first micro-step of an MDIO operation (R154, R156, R158, R161). -/
def firstPos (c : Config) : Instr → MdioSeq
  | .setInterfaceMode _ _ => .idle
  | .setLinkSpeed _ _ => .idle
  | .computeDivider => .idle
  | .reset => .reset .query
  | .waitNotBusy => .waitNotBusy (.poll c.retryBudget)
  | .read a r => .read a r (.firstWait (.poll c.retryBudget))
  | .write a r v => .write a r v .storeAddr

/-- The cycle a trigger starts: the state with it in flight (R193, R194, R200). -/
def State.withCycle (s : State) (c : Cycle) : State :=
  { s with
    pending := some c
    ind := s.ind ||| s.cfg.indBusy
    countdown := if let .simPhy (some l) := s.level then l else s.countdown }

/-- The cell a write cycle in flight is going to change, if one is in flight. -/
def State.cellInFlight (s : State) : Option Nat :=
  match s.pending with
  | some (.wr a r _) => some (cellNumber a r)
  | some (.rd _ _) => none
  | none => none

/-! ## The two halves of the state (R2) -/

/-- `s` with the InterfaceSelector's state of `u`. -/
def State.withSelSide (s u : State) : State :=
  { s with miictrl0 := u.miictrl0, miictrl1 := u.miictrl1, selSeq := u.selSeq }

/-- `s` with the state of the MdioController, its line and its clock of `u`. -/
def State.withMdioSide (s u : State) : State :=
  { s with
    cfgReg := u.cfgReg, cmd := u.cmd, addr := u.addr, ctrl := u.ctrl, status := u.status, ind := u.ind
    refRate := u.refRate, mdioSeq := u.mdioSeq, pending := u.pending, phy := u.phy, lineFault := u.lineFault
    resetDone := u.resetDone, countdown := u.countdown, clkAnswers := u.clkAnswers, draws := u.draws, turns := u.turns, drawn := u.drawn
    level := u.level }

end Sys2Proof.Machine
end

