-- ==== Sys2Proof/Certificates/Slice0/Obligations.lean ====
section
/-! DEFINITION. The statements about the model. Each says in its docstring which rules of spec/ it formalises; a
hypothesis that is an invariant is stated on its own (`InvariantIsKept`, `CommandLatchIsKept`). -/

open Sys2Proof Sys2Proof.Machine

/-! ## Requests (30_encoding.md) -/

/-- R91, R92, R94: no bit of a well-formed operation is lost on the way through its request word. The binary form is
the spec's own decision D15. -/
def Obligations.DecodeOfEncode : Prop := ∀ i : Instr, i.wf = true → decode (encode i) = .op i

/-- R91, R92, R97: a legal word is the word of the operation it decodes to, and that operation is well formed. The
binary form is the spec's own decision D15. -/
def Obligations.EncodeOfDecode : Prop :=
  ∀ (w : RequestWord) (i : Instr), decode w = .op i → encode i = w ∧ i.wf = true

/-- Words written out from R91 and R92 (V8.2, V8.6, V8.9, V8.12, V8.13, V8.14, V8.16, V8.17, V8.20 and V8.24 of
95_test_vectors.md). The binary form is the spec's own decision D15, the rejections D36. -/
def Obligations.ReferenceWordsDecode : Prop :=
  decode 0x0100000000030000#64 = .op (.setInterfaceMode 0#16 (.named .rmii)) ∧
  decode 0x0100000000040000#64 = .op (.setInterfaceMode 0#16 (.unnamed 4#16)) ∧
  decode 0x0200000003E80000#64 = .op (.setLinkSpeed 0#16 1000#16) ∧
  decode 0x1000000000000000#64 = .op .computeDivider ∧
  decode 0x1100000000000000#64 = .op .reset ∧
  decode 0x1200000000000000#64 = .op .waitNotBusy ∧
  decode 0x1300012301FF0000#64 = .op (.read 0x0123#16 0x01FF#16) ∧
  decode 0x140000040002BEEF#64 = .op (.write 4#16 2#16 0xBEEF#16) ∧
  decode 0x0000000000000000#64 = .illegal .unknownOpcode ∧
  decode 0x0101000000030000#64 = .illegal .nonzeroZ

/-- R97: which words are illegal, and what becomes of a request that is one. The spec's own decisions D15 and D36; how
the answer is recorded is log 18. -/
def Obligations.IllegalRequests : Prop :=
  (∀ w : RequestWord, (∃ why, decode w = .illegal why) ↔
    (w >>> 56 ∉ [0x01#64, 0x02#64, 0x10#64, 0x11#64, 0x12#64, 0x13#64, 0x14#64] ∨
      (w >>> 48) &&& 0xFF#64 ≠ 0#64 ∨
      (w >>> 56 ∈ [0x10#64, 0x11#64, 0x12#64] ∧ w &&& 0xFFFFFFFFFFFF#64 ≠ 0#64) ∨
      (w >>> 56 ∈ [0x01#64, 0x02#64, 0x13#64] ∧ w &&& 0xFFFF#64 ≠ 0#64))) ∧
  ∀ (s : State) (q : Request) (qs : List Request) (why : Illegal), s.cfg.Valid →
    s.mdioSeq = .idle → s.requests = q :: qs → q.overlap = none → decode q.word = .illegal why →
    step s = .next { s.lineTurn with
      requests := qs
      history := s.history ++ [.reqIllegal q.word, .resp none (.error .invalidArgument)] }

/-- R96, R211: the response word of a result: bits 31..20 zero, the number R211 gives the kind, the value, 0 but for
`OK(v)`. A configuration with a table entry above 65535 is refused for this form; under every other each response an
operation sends has its word. The spec's own decisions D15, D16 and D30; the refusal's name and a value that does not fit
are log 26. -/
def Obligations.ResponseWords : Prop :=
  (∀ (c : Config) (r : Result),
    let code : Nat := match r with
      | .ok => 0
      | .okValue _ => 0
      | .error .invalidArgument => 1
      | .error .timeout => 2
      | .error .hardwareFault => 3
      | .error .notFound => 4
      | .error .notReady => 5
    let value : Nat := match r with
      | .ok => 0
      | .okValue v => v
      | .error _ => 0
    ((∃ d ∈ c.dividerTable, 65535 < d) → c.responseWord r = .error .noBinaryForm) ∧
    ((∀ d ∈ c.dividerTable, d ≤ 65535) →
      (value ≤ 65535 →
        ∃ w, c.responseWord r = .ok w ∧ w >>> 20 = 0#32 ∧ (w >>> 16).toNat = code ∧ (w &&& 0xFFFF#32).toNat = value) ∧
      (65535 < value → c.responseWord r = .error .noBinaryForm))) ∧
  ∀ (s t : State) (i : Instr), s.cfg.Valid → (∀ d ∈ s.cfg.dividerTable, d ≤ 65535) → exec i s = .next t →
    ∃ evs, t.history = s.history ++ evs ∧
      ∀ e ∈ evs, ∀ r, e.result = some r → ∃ w, s.cfg.responseWord r = .ok w

/-! ## One step of the machine -/

/-- The next request, when it waits for the response before it, is run by the step that finds the sequencer idle: the
step is LINE's opportunity and then the meaning of the operation (R39, R101, R195). The granularity and LINE's one
opportunity before a step are the model's choice, logs 1, 8 and 9. -/
def Obligations.StepRunsTheRequest : Prop :=
  ∀ (s : State) (q : Request) (qs : List Request) (i : Instr), s.cfg.Valid → s.mdioSeq = .idle →
    s.requests = q :: qs → q.overlap = none → decode q.word = .op i →
    step s = exec i { s.lineTurn with requests := qs }

/-- While an MDIO operation is open, a step is LINE's opportunity and then that operation's next micro-step; a request
that waits stays where it is, and one that overlaps has one step less to wait (R39, R70, R101). The granularity, LINE's
opportunity and how a request overlaps are the model's choice, logs 1, 8 and 9. -/
def Obligations.StepGoesOnWithTheOpenOperation : Prop :=
  ∀ (s : State) (i : Instr), s.cfg.Valid → s.mdioSeq.instr = some i →
    (s.requests = [] → step s = exec i s.lineTurn) ∧
    ∀ (q : Request) (qs : List Request), s.requests = q :: qs →
      (q.overlap = none → step s = exec i s.lineTurn) ∧
      ∀ n, q.overlap = some (n + 1) →
        step s = exec i { s.lineTurn with requests := { q with overlap := some n } :: qs }

/-- R70, R227: requests to the two components may overlap; a request to a component whose sequencer is running is
refused, as is every operation other than the open one. Refusing is the spec's own decision D25; how it is recorded is
log 17. -/
def Obligations.OverlappingRequests : Prop :=
  ∀ (s : State) (q : Request) (qs : List Request) (i : Instr), s.cfg.Valid → s.mdioSeq ≠ .idle →
    s.requests = q :: qs → q.overlap = some 0 → decode q.word = .op i →
    (componentOf i = .sel → step s = exec i { s.lineTurn with requests := qs }) ∧
    (componentOf i = .mdc → step s = .refused (.componentBusy .mdc)) ∧
    (componentOf i = .sel → s.selSeq = .running → step s = .refused (.componentBusy .sel)) ∧
    (componentOf i = .mdc → s.mdioSeq.instr ≠ some i → exec i s = .refused (.componentBusy .mdc))

/-- R227: a configuration that breaks a constraint is refused, and no other is: a step of a valid configuration ends in
a state or in the refusal of R70. When the refusal happens is the model's choice, log 16; the constraints are the
spec's decisions D2, D4 to D8, D11 and D20. -/
def Obligations.ConfigurationsRefused : Prop :=
  ∀ s : State, step s = .refused .badConfiguration ↔ ¬s.cfg.Valid

/-- R40: what the spec gives for power-on, for every launch (no `reset` has answered OK: R243); the rest is what the
launch says, word for word on the levels where R40 leaves it open: on the open line every word, in `LINE` every word but
for the busy bit, which follows `line.pending` (R192). The values are the spec's own decision D22; `line.countdown` is
log 4. -/
def Obligations.PowerOn : Prop :=
  ∀ l : Launch,
    let s := State.powerOn l
    s.refRate = none ∧ s.selSeq = .idle ∧ s.mdioSeq = .idle ∧ s.lineFault = false ∧ s.resetDone = false ∧
    s.history = [] ∧
    s.cfg = l.cfg ∧ s.level = l.level ∧ s.miictrl0 = l.miictrl0 ∧ s.miictrl1 = l.miictrl1 ∧ s.cfgReg = l.cfgReg ∧
    s.addr = l.addr ∧ s.ctrl = l.ctrl ∧ s.phy = l.phy ∧ s.requests = l.requests ∧ s.clkAnswers = l.clkAnswers ∧
    s.draws = l.draws ∧ s.turns = l.turns ∧
    (l.level = .openLine → s.cmd = l.cmd ∧ s.status = l.status ∧ s.ind = l.ind ∧ s.pending = l.pending) ∧
    (l.level = .wellBehaved → s.cmd = l.cmd ∧ s.status = l.status ∧ s.pending = l.pending ∧
      s.ind &&& ~~~l.cfg.indBusy = l.ind &&& ~~~l.cfg.indBusy ∧
      (l.cfg.Valid → (l.cfg.busyIn s.ind = true ↔ l.pending ≠ none))) ∧
    (∀ n, l.level = .simPhy n → s.cmd = l.cfg.cmdWrite ∧ s.status = 0#32 ∧ s.ind = 0#32 ∧ s.pending = none ∧
      l.cfg.busyIn s.ind = false)

/-! ## InterfaceSelector -/

/-- R123 to R128, R135: the accepting cells of the compatibility matrix, with the word stored and the whole effect. What the
read-back returns is left open (U17, N24). -/
def Obligations.SetInterfaceModeAccepts : Prop :=
  ∀ (s : State) (p : Half) (m : Mode), s.cfg.Valid → s.selSeq = .idle → p.toNat < s.cfg.portCount →
    (m = .gmii ∨ m = .mii → p = 0#16) → (m = .gmii ∨ m = .rgmii → s.cfg.supportsGigabit = true) →
    let w := if p = 0#16 then s.miictrl0 else s.miictrl1
    let cur := (w >>> s.cfg.speedShift) &&& BitVec.ofNat 32 (2 ^ s.cfg.speedWidth - 1)
    let sel : Word := match m with
      | .gmii => 0
      | .mii => 1
      | .rgmii => if p = 1#16 then 0 else 2
      | .rmii => if p = 1#16 then 1 else 3
    let spd : Word := match m with
      | .gmii => cur
      | .rgmii => cur
      | .mii => if cur = 0 then 0 else 1
      | .rmii => if cur = 0 then 0 else 1
    let new := (sel <<< s.cfg.selectShift) ||| (spd <<< s.cfg.speedShift)
    let off := p.toNat * s.cfg.stride
    ∃ x : Word, exec (.setInterfaceMode p (.named m)) s = .next { s with
      miictrl0 := if p = 0#16 then new else s.miictrl0
      miictrl1 := if p = 0#16 then s.miictrl1 else new
      history := s.history ++ [.req (.setInterfaceMode p (.named m)), .ld .selwin off w, .st .selwin off new,
        .ld .selwin off x, .resp (some .sel) .ok] }

/-- R120, R124, R125, R134, R94: the refusing cells: InvalidArgument, no store, one load unless the port bound failed.
The port bound first, the load before the other checks and the unnamed mode are the spec's own decisions D17, D18 and
D34. -/
def Obligations.SetInterfaceModeRefuses : Prop :=
  ∀ (s : State) (p : Half) (m : ModeOperand), s.cfg.Valid → s.selSeq = .idle →
    (s.cfg.portCount ≤ p.toNat →
      exec (.setInterfaceMode p m) s = .next { s with
        history := s.history ++ [.req (.setInterfaceMode p m), .resp (some .sel) (.error .invalidArgument)] }) ∧
    (p.toNat < s.cfg.portCount →
      ((∃ n, m = .unnamed n) ∨ (m = .named .gmii ∨ m = .named .mii) ∧ p ≠ 0#16 ∨
        (m = .named .gmii ∨ m = .named .rgmii) ∧ s.cfg.supportsGigabit = false) →
      exec (.setInterfaceMode p m) s = .next { s with
        history := s.history ++ [.req (.setInterfaceMode p m),
          .ld .selwin (p.toNat * s.cfg.stride) (if p = 0#16 then s.miictrl0 else s.miictrl1),
          .resp (some .sel) (.error .invalidArgument)] })

/-- R129 to R133: 10, 100 and 1000 Mbps are stored as codes 0, 1 and 2, exclusively; 1000 Mbps only while the stored
select code is even. On port 1 the select code is one bit (the spec's own decision D3); R132 marks the parity test as
derived; that the read-back returns the stored word is log 10 (R69, R198, against U17 and N24). -/
def Obligations.SetLinkSpeedAccepts : Prop :=
  ∀ (s : State) (p v : Half) (code : Word), s.cfg.Valid → s.selSeq = .idle → p.toNat < s.cfg.portCount →
    (v = 10#16 ∧ code = 0 ∨ v = 100#16 ∧ code = 1 ∨ v = 1000#16 ∧ code = 2) →
    let w := if p = 0#16 then s.miictrl0 else s.miictrl1
    let sel := (w >>> s.cfg.selectShift) &&& (if p = 1#16 then 1#32 else 3#32)
    (v = 1000#16 → sel &&& 1#32 = 0#32) →
    let new := (sel <<< s.cfg.selectShift) ||| (code <<< s.cfg.speedShift)
    let off := p.toNat * s.cfg.stride
    exec (.setLinkSpeed p v) s = .next { s with
      miictrl0 := if p = 0#16 then new else s.miictrl0
      miictrl1 := if p = 0#16 then s.miictrl1 else new
      history := s.history ++ [.req (.setLinkSpeed p v), .ld .selwin off w, .st .selwin off new,
        .ld .selwin off new, .resp (some .sel) .ok] }

/-- R120, R131, R132, R134: the refusals of `set_link_speed`. The port bound first and the load before the other checks
are the spec's own decisions D17 and D34; the parity test is marked derived in R132. -/
def Obligations.SetLinkSpeedRefuses : Prop :=
  ∀ (s : State) (p v : Half), s.cfg.Valid → s.selSeq = .idle →
    let w := if p = 0#16 then s.miictrl0 else s.miictrl1
    (s.cfg.portCount ≤ p.toNat →
      exec (.setLinkSpeed p v) s = .next { s with
        history := s.history ++ [.req (.setLinkSpeed p v), .resp (some .sel) (.error .invalidArgument)] }) ∧
    (p.toNat < s.cfg.portCount →
      (v ∉ [10#16, 100#16, 1000#16] ∨ v = 1000#16 ∧ (w >>> s.cfg.selectShift) &&& 1#32 = 1#32) →
      exec (.setLinkSpeed p v) s = .next { s with
        history := s.history ++ [.req (.setLinkSpeed p v), .ld .selwin (p.toNat * s.cfg.stride) w,
          .resp (some .sel) (.error .invalidArgument)] })

/-- R43: decoding an encoded record gives it back, on both kinds of port; encoding a decoded word gives it back exactly
when its other bits are 0. R43 marks the law as derived. -/
def Obligations.SelectorWordRoundTrip : Prop :=
  ∀ (c : Config) (p : Nat), c.Valid →
    (∀ f : SelectorFields, f.selectCode ≤ selectMask p → f.speedCode ≤ c.speedMask →
      c.decodeSelector p (c.encodeSelector f) = f) ∧
    ∀ w : Word, c.encodeSelector (c.decodeSelector p w) = w ↔
      w &&& ~~~((selectMask p <<< c.selectShift) ||| (c.speedMask <<< c.speedShift)) = 0#32

/-- R136: after a successful selector operation on a port, from any contents, (a) the other bits of its word are 0, (b)
on port 1 that includes the bit above the select field, (c) the speed code is 0 or 1 if the select code is odd; every
step keeps these, so they hold until power-down; and (d) a speed field holds 3 after an operation only if it held 3
before it and the word is as it was or the operation was a `set_interface_mode` of that port with GMII or RGMII, and no
step brings a 3 into it. R136 marks these invariants as derived; the masks on port 1 are the spec's own decision D3. -/
def Obligations.SelectorWordAfterSuccess : Prop :=
  (∀ (s t : State) (i : Instr) (p : Half), s.cfg.Valid →
    (∃ m, i = .setInterfaceMode p m) ∨ (∃ v, i = .setLinkSpeed p v) →
    exec i s = .next t → t.history.getLast? = some (.resp (some .sel) .ok) →
    let w := if p = 0#16 then t.miictrl0 else t.miictrl1
    w &&& ~~~((selectMask p.toNat <<< s.cfg.selectShift) ||| (s.cfg.speedMask <<< s.cfg.speedShift)) = 0#32 ∧
    ((w >>> s.cfg.selectShift) &&& 1#32 = 1#32 → (w >>> s.cfg.speedShift) &&& s.cfg.speedMask ≤ 1#32)) ∧
  (∀ (s t : State) (p : Nat), s.cfg.Valid → p < 2 → s.PortWordOk p → step s = .next t → t.PortWordOk p) ∧
  ∀ (s t : State) (p : Nat), s.cfg.Valid → p < 2 → t.speedCode p = 3#32 →
    (∀ i, exec i s = .next t → s.speedCode p = 3#32 ∧
      (t.portWord p = s.portWord p ∨
        ∃ q m, i = .setInterfaceMode q (.named m) ∧ q.toNat = p ∧ (m = .gmii ∨ m = .rgmii))) ∧
    (step s = .next t → s.speedCode p = 3#32)

/-- The frame of the two selector operations (R121, R2): whatever they answer, only the word of the port they name and
the history change. -/
def Obligations.SelectorFrame : Prop :=
  ∀ (s t : State) (i : Instr) (p : Half), s.cfg.Valid →
    (∃ m, i = .setInterfaceMode p m) ∨ (∃ v, i = .setLinkSpeed p v) → exec i s = .next t →
    t = { s with miictrl0 := t.miictrl0, miictrl1 := t.miictrl1, history := t.history } ∧
    (p ≠ 0#16 → t.miictrl0 = s.miictrl0) ∧ (p ≠ 1#16 → t.miictrl1 = s.miictrl1)

/-! ## compute_divider and reset -/

/-- R150, R151, R153: the result is the first entry of the table whose truncated quotient does not exceed the target,
or the last entry when there is none; nothing changes but the history. The entry as divisor and code and the truncating
division are the spec's own decisions D9 and D10. -/
def Obligations.ComputeDividerResult : Prop :=
  ∀ (s : State) (hz : Nat), s.cfg.Valid → s.mdioSeq = .idle → s.refRate = some hz → hz ≠ 0 →
    ∃ d, exec .computeDivider s = .next { s with
        history := s.history ++ [.req .computeDivider, .resp (some .mdc) (.okValue d)] } ∧
      ((∃ k : Nat, s.cfg.dividerTable[k]? = some d ∧ hz / d ≤ s.cfg.targetRate ∧
          ∀ j : Nat, j < k → ∀ e, s.cfg.dividerTable[j]? = some e → s.cfg.targetRate < hz / e) ∨
        ((∀ e ∈ s.cfg.dividerTable, s.cfg.targetRate < hz / e) ∧ s.cfg.dividerTable.getLast? = some d))

/-- R152: with no clock rate, or rate zero, HardwareFault. -/
def Obligations.ComputeDividerWithoutClock : Prop :=
  ∀ s : State, s.mdioSeq = .idle → (s.refRate = none ∨ s.refRate = some 0) →
    exec .computeDivider s = .next { s with
      history := s.history ++ [.req .computeDivider, .resp (some .mdc) (.error .hardwareFault)] }

/-- R154, R155: with an answer of the clock provider that gives no rate, `reset` returns HardwareFault, stores to no
register, and has latched the answer. Latching the failing answer is the spec's own decision D35; one step is log 1. -/
def Obligations.ResetWithoutClock : Prop :=
  ∀ (s : State) (q : Option Nat) (qs : List (Option Nat)), s.mdioSeq = .idle → s.clkAnswers = q :: qs →
    (q = none ∨ q = some 0) →
    exec .reset s = .next { s with
      refRate := q
      clkAnswers := qs
      history := s.history ++ [.req .reset, .clkQuery q, .resp (some .mdc) (.error .hardwareFault)] }

/-- R154, R196: the micro-steps of `reset`: the query, the store of the divider with `RESET_BIT`, the settle delay, the
store of the divider alone, the settle delay and the response, from which on a `reset` has answered OK (R242, R243; log
29). On the levels that have a line the first store drops the cycle in flight and idles the command latch; the second
has no effect on the line. What the stores do to the line is the spec's own decision D23; one access a step is log 1;
that the read-backs return the stored word is log 10 (against U17 and N24). Where the launch lists no answer of the
clock provider, the free value of log 7 decides as a listed answer does. -/
def Obligations.ResetMicroSteps : Prop :=
  ∀ (s : State) (d : Nat), s.cfg.Valid → d ∈ s.cfg.dividerTable →
    (∀ q qs, s.mdioSeq = .idle → s.clkAnswers = q :: qs → s.cfg.divider q = some d →
      exec .reset s = .next { s with
        refRate := q, clkAnswers := qs, mdioSeq := .reset (.assert d)
        history := s.history ++ [.req .reset, .clkQuery q] }) ∧
    (s.mdioSeq = .idle → s.clkAnswers = [] →
      let q := Config.freeClk s.drawn
      exec .reset s = .next { s with
        refRate := q
        drawn := s.drawn + 1
        mdioSeq := match s.cfg.divider q with
          | none => .idle
          | some e => .reset (.assert e)
        history := s.history ++ [.req .reset, .clkQuery q] ++ match s.cfg.divider q with
          | none => [.resp (some .mdc) (.error .hardwareFault)]
          | some _ => [] }) ∧
    (s.mdioSeq = .reset (.assert d) →
      let v := BitVec.ofNat 32 d ||| s.cfg.resetBit
      exec .reset s = .next { s with
        cfgReg := v
        cmd := if s.level = .openLine then s.cmd else s.cfg.cmdWrite
        pending := if s.level = .openLine then s.pending else none
        ind := if s.level = .openLine then s.ind else s.ind &&& ~~~s.cfg.indBusy
        mdioSeq := .reset (.settleAsserted d)
        history := s.history ++ [.st .mdiowin s.cfg.cfgOff v, .ld .mdiowin s.cfg.cfgOff v] }) ∧
    (s.mdioSeq = .reset (.settleAsserted d) →
      exec .reset s = .next { s with
        mdioSeq := .reset (.release d), history := s.history ++ [.delay s.cfg.resetSettleUs] }) ∧
    (s.mdioSeq = .reset (.release d) →
      let v := BitVec.ofNat 32 d
      exec .reset s = .next { s with
        cfgReg := v, mdioSeq := .reset .settleReleased
        history := s.history ++ [.st .mdiowin s.cfg.cfgOff v, .ld .mdiowin s.cfg.cfgOff v] }) ∧
    (s.mdioSeq = .reset .settleReleased →
      exec .reset s = .next { s with
        resetDone := true, mdioSeq := .idle
        history := s.history ++ [.delay s.cfg.resetSettleUs, .resp (some .mdc) .ok] })

/-- R154, R166 (d), R242: a whole `reset` with a clock, five steps from the request to the response on every line level:
the event list of R154, `CFG` left with an entry of the table and `RESET_BIT` clear, and on the levels that have a line
no cycle in flight, the busy bit clear and the latch in WRITE-mode. What `reset` does to the line is the spec's own
decision D23; that it takes five steps is log 1, that the read-backs return the stored word is log 10 (against U17 and
N24). -/
def Obligations.ResetRunsToItsEnd : Prop :=
  ∀ (s : State) (hz : Nat) (qs : List (Option Nat)), s.cfg.Valid → s.mdioSeq = .idle → hz ≠ 0 →
    s.requests = programRequests [.reset] → s.clkAnswers = some hz :: qs →
    ∃ (t : State) (d : Nat), runSteps 5 s = .next t ∧ d ∈ s.cfg.dividerTable ∧
      s.cfg.divider (some hz) = some d ∧ t.cfgReg = BitVec.ofNat 32 d ∧ t.cfgReg &&& s.cfg.resetBit = 0#32 ∧
      t.refRate = some hz ∧ t.resetDone = true ∧ t.mdioSeq = .idle ∧ t.requests = [] ∧ t.lineFault = s.lineFault ∧
      t.addr = s.addr ∧ t.ctrl = s.ctrl ∧ t.miictrl0 = s.miictrl0 ∧ t.miictrl1 = s.miictrl1 ∧
      t.history = s.history ++ [.req .reset, .clkQuery (some hz),
        .st .mdiowin s.cfg.cfgOff (BitVec.ofNat 32 d ||| s.cfg.resetBit),
        .ld .mdiowin s.cfg.cfgOff (BitVec.ofNat 32 d ||| s.cfg.resetBit), .delay s.cfg.resetSettleUs,
        .st .mdiowin s.cfg.cfgOff (BitVec.ofNat 32 d), .ld .mdiowin s.cfg.cfgOff (BitVec.ofNat 32 d),
        .delay s.cfg.resetSettleUs, .resp (some .mdc) .ok] ∧
      (s.level ≠ .openLine → t.InvNotBusy ∧ t.InvCmdIdle) ∧ (s.level = .openLine → t.cmd = s.cmd)

/-! ## wait_not_busy, read, write -/

/-- An MDIO operation that is accepted makes its first micro-step in the same step (R39): accepting it only records the
request. That acceptance and first micro-step are one step is the model's choice, log 1. -/
def Obligations.AcceptanceIsTheFirstMicroStep : Prop :=
  ∀ (s : State) (i : Instr), s.cfg.Valid → s.mdioSeq = .idle → componentOf i = .mdc → i ≠ .computeDivider →
    exec i s = exec i { s with mdioSeq := firstPos s.cfg i, history := s.history ++ [.req i] }

/-- R156: the micro-steps of `wait_not_busy`. The place of the delay is the spec's own decision D26; one access a step
is log 1. -/
def Obligations.WaitNotBusyMicroSteps : Prop :=
  WaitAnswers .waitNotBusy .waitNotBusy (endsWith .ok) (endsWith (.error .timeout))

/-- R156: when the first load of `IND` sees the busy bit clear, `wait_not_busy` answers OK in its first step, and only
the line's own state and the history change. That request, load and response are one step is log 1, that `IND` takes the
word driven is log 11. -/
def Obligations.WaitNotBusyOnAnIdleBus : Prop :=
  ∀ s : State, s.cfg.Valid → s.mdioSeq = .idle → 0 < s.cfg.retryBudget →
    s.driveInd.ind &&& s.cfg.indBusy = 0#32 →
    exec .waitNotBusy s = .next { s with
      ind := s.driveInd.ind, status := s.driveInd.status, pending := s.driveInd.pending, phy := s.driveInd.phy
      countdown := s.driveInd.countdown, draws := s.driveInd.draws, drawn := s.driveInd.drawn
      history := s.history ++ [.req .waitNotBusy, .ld .mdiowin s.cfg.indOff s.driveInd.ind,
        .resp (some .mdc) .ok] }

/-- R157: however the line behaves, a `wait_not_busy` ends in OK after k loads, 1 ≤ k ≤ RETRY_BUDGET, the last of which
alone saw the busy bit clear, or in Timeout after exactly RETRY_BUDGET loads that all saw it set. -/
def Obligations.WaitUsesItsExactBudget : Prop :=
  ∀ s : State, s.cfg.Valid → s.mdioSeq = .idle → s.requests = programRequests [.waitNotBusy] →
    ∃ (k : Nat) (t : State) (evs : List Event) (r : Result), runSteps k s = .next t ∧ t.mdioSeq = .idle ∧
      t.history = s.history ++ .req .waitNotBusy :: (evs ++ [.resp (some .mdc) r]) ∧
      (∀ e ∈ evs, e.result = none) ∧
      let loads := evs.filterMap (Event.indWord s.cfg)
      (r = .ok ∧ 1 ≤ loads.length ∧ loads.length ≤ s.cfg.retryBudget ∧
          (∀ v ∈ loads.dropLast, s.cfg.busyIn v = true) ∧ ∀ v ∈ loads.getLast?, s.cfg.busyIn v = false) ∨
        (r = .error .timeout ∧ loads.length = s.cfg.retryBudget ∧ ∀ v ∈ loads, s.cfg.busyIn v = true)

/-- R158, R159, R160: the micro-steps of `read` but for its waits: steps 2a, 2b, 4, 5, and the store of `CMD_WRITE` on
the step-3 Timeout. The store on the step-3 Timeout is the spec's own decision D14; the line's side is D23, and logs 1
and 6; that the read-backs return the stored word is log 10 (against U17 and N24), that `STATUS` takes the word driven
is log 11. Before the first successful `reset` the word step 4 sees is arbitrary on every level (R243; log 29). -/
def Obligations.ReadMicroSteps : Prop :=
  ∀ (s : State) (a r : Half), s.cfg.Valid →
    (s.mdioSeq = .read a r .storeIdle →
      exec (.read a r) s = .next { s with
        cmd := s.cfg.cmdWrite, mdioSeq := .read a r .storeAddr
        history := s.history ++ [.st .mdiowin s.cfg.cmdOff s.cfg.cmdWrite,
          .ld .mdiowin s.cfg.cmdOff s.cfg.cmdWrite] }) ∧
    (s.mdioSeq = .read a r .storeAddr →
      let v := BitVec.ofNat 32 (a.toNat % 256 * 256 + r.toNat % 256)
      exec (.read a r) s = .next { s with
        addr := v, mdioSeq := .read a r .storeRead
        history := s.history ++ [.st .mdiowin s.cfg.addrOff v, .ld .mdiowin s.cfg.addrOff v] }) ∧
    (s.mdioSeq = .read a r .loadStatus →
      ∃ (w st : Word) (ds : List Word) (n : Nat),
        exec (.read a r) s = .next { s with
          status := st, draws := ds, drawn := n, mdioSeq := .read a r (.storeBack (w.setWidth 16))
          history := s.history ++ [.ld .mdiowin s.cfg.statusOff w] } ∧
        (s.level ≠ .openLine → s.resetDone = true → st = w ∧ w.setWidth 16 = s.status.setWidth 16) ∧
        (s.level ≠ .openLine → s.resetDone = false → st = s.status) ∧
        (s.level = .openLine → st = w) ∧
        ∀ x xs, s.level = .openLine ∨ s.resetDone = false → s.draws = x :: xs → w = x) ∧
    (∀ v, s.mdioSeq = .read a r (.storeBack v) →
      exec (.read a r) s = .next { s with
        cmd := s.cfg.cmdWrite, mdioSeq := .idle
        history := s.history ++ [.st .mdiowin s.cfg.cmdOff s.cfg.cmdWrite,
          .ld .mdiowin s.cfg.cmdOff s.cfg.cmdWrite, .log (a.setWidth 8) (r.setWidth 8) v,
          .resp (some .mdc) (.okValue v.toNat)] }) ∧
    (s.mdioSeq = .read a r .abort →
      exec (.read a r) s = .next { s with
        cmd := s.cfg.cmdWrite, mdioSeq := .idle
        history := s.history ++ [.st .mdiowin s.cfg.cmdOff s.cfg.cmdWrite,
          .ld .mdiowin s.cfg.cmdOff s.cfg.cmdWrite, .resp (some .mdc) (.error .timeout)] })

/-- R158 step 2c, R193, R199, R191: the store of `CMD_READ`. On the open line it only changes the latch. On the levels
that have a line it starts the read cycle of the address stored before it if the line is idle and the latch in
WRITE-mode, marks the line faulted if a cycle is in flight, and starts nothing over another latch word (log 12 where
that is not `CMD_READ`). The trigger is the spec's own decision D23, the mark D24; one access a step is log 1; that the
read-back returns the stored word is log 10 (against U17 and N24); before the first successful `reset` the engine may
leave the trigger, by a free choice (R243; log 29). -/
def Obligations.ReadStartsItsCycle : Prop :=
  ∀ (s : State) (a r : Half), s.cfg.Valid → s.mdioSeq = .read a r .storeRead →
    let evs : List Event := [.st .mdiowin s.cfg.cmdOff s.cfg.cmdRead, .ld .mdiowin s.cfg.cmdOff s.cfg.cmdRead]
    let q : MdioSeq := .read a r (.secondWait (.poll s.cfg.retryBudget))
    (s.level = .openLine →
      exec (.read a r) s = .next { s with cmd := s.cfg.cmdRead, mdioSeq := q, history := s.history ++ evs }) ∧
    (s.level ≠ .openLine →
      (s.pending = none → s.cmd = s.cfg.cmdWrite →
        let started := s.withCycle (.rd ((s.addr >>> 8).setWidth 8) (s.addr.setWidth 8))
        (s.resetDone = true →
          exec (.read a r) s = .next { started with
            cmd := s.cfg.cmdRead, mdioSeq := q, history := s.history ++ evs }) ∧
        (s.resetDone = false → ∀ (b : Bool) (ts : List Bool) (n : Nat),
          (s.turns = b :: ts ∧ n = s.drawn ∨ s.turns = [] ∧ b = Config.freeTurn s.drawn ∧ ts = [] ∧ n = s.drawn + 1) →
          exec (.read a r) s = .next { (if b then started else s) with
            cmd := s.cfg.cmdRead, turns := ts, drawn := n, mdioSeq := q, history := s.history ++ evs })) ∧
      (s.pending = none → s.cmd ≠ s.cfg.cmdWrite →
        exec (.read a r) s = .next { s with cmd := s.cfg.cmdRead, mdioSeq := q, history := s.history ++ evs }) ∧
      (s.pending ≠ none →
        exec (.read a r) s = .next { s with
          cmd := s.cfg.cmdRead, lineFault := true, mdioSeq := q, history := s.history ++ evs }))

/-- R158, R159: the two waits of `read`: a step-1 Timeout ends it with nothing stored, a step-3 Timeout leads to the
store of `CMD_WRITE`, and no value is returned on either. The place of the delay and the step-3 Timeout are the spec's
own decisions D26 and D14; one access a step, the diagnostic a step of its own, is log 1. -/
def Obligations.ReadWaits : Prop :=
  ∀ a r : Half,
    WaitAnswers (.read a r) (fun q => .read a r (.firstWait q))
      (fun s => { s with mdioSeq := .read a r .storeIdle }) (endsWith (.error .timeout)) ∧
    WaitAnswers (.read a r) (fun q => .read a r (.secondWait q))
      (fun s => { s with mdioSeq := .read a r .loadStatus }) (fun s => { s with mdioSeq := .read a r .abort })

/-- R161, R162, R194, R199, R191: the micro-steps of `write` but for its wait. No wait leads; the store to `ADDR` and
the store to `CTRL` are made whatever the line does. On the levels that have a line the latter starts the write cycle if
the line is idle and the latch in WRITE-mode, marks the line faulted if a cycle is in flight or the latch is in
READ-mode, and starts nothing over a latch word that is neither (log 12). The trigger is the spec's own decision D23,
the mark D24; one access a step is log 1; that the read-backs return the stored word is log 10 (against U17 and N24);
before the first successful `reset` the engine may leave the trigger, by a free choice (R243; log 29). -/
def Obligations.WriteMicroSteps : Prop :=
  ∀ (s : State) (a r v : Half), s.cfg.Valid →
    (s.mdioSeq = .idle →
      let w := BitVec.ofNat 32 (a.toNat % 256 * 256 + r.toNat % 256)
      exec (.write a r v) s = .next { s with
        addr := w, mdioSeq := .write a r v .storeCtrl
        history := s.history ++ [.req (.write a r v), .st .mdiowin s.cfg.addrOff w,
          .ld .mdiowin s.cfg.addrOff w] }) ∧
    (s.mdioSeq = .write a r v .storeCtrl →
      let w := BitVec.ofNat 32 v.toNat
      let evs : List Event := [.st .mdiowin s.cfg.ctrlOff w, .ld .mdiowin s.cfg.ctrlOff w,
        .log (a.setWidth 8) (r.setWidth 8) v]
      let q : MdioSeq := .write a r v (.finalWait (.poll s.cfg.retryBudget))
      (s.level = .openLine →
        exec (.write a r v) s = .next { s with ctrl := w, mdioSeq := q, history := s.history ++ evs }) ∧
      (s.level ≠ .openLine →
        (s.pending = none → s.cmd = s.cfg.cmdWrite →
          let started := s.withCycle (.wr ((s.addr >>> 8).setWidth 8) (s.addr.setWidth 8) v)
          (s.resetDone = true →
            exec (.write a r v) s = .next { started with ctrl := w, mdioSeq := q, history := s.history ++ evs }) ∧
          (s.resetDone = false → ∀ (b : Bool) (ts : List Bool) (n : Nat),
            (s.turns = b :: ts ∧ n = s.drawn ∨ s.turns = [] ∧ b = Config.freeTurn s.drawn ∧ ts = [] ∧ n = s.drawn + 1) →
            exec (.write a r v) s = .next { (if b then started else s) with
              ctrl := w, turns := ts, drawn := n, mdioSeq := q, history := s.history ++ evs })) ∧
        (s.pending ≠ none ∨ s.cmd = s.cfg.cmdRead →
          exec (.write a r v) s = .next { s with
            ctrl := w, lineFault := true, mdioSeq := q, history := s.history ++ evs }) ∧
        (s.pending = none → s.cmd ≠ s.cfg.cmdWrite → s.cmd ≠ s.cfg.cmdRead →
          exec (.write a r v) s = .next { s with ctrl := w, mdioSeq := q, history := s.history ++ evs })))

/-- R161: the trailing wait of `write`, whose result is the result of the operation. The place of the delay is the
spec's own decision D26; one access a step, the diagnostic a step of its own, is log 1. -/
def Obligations.WriteWait : Prop :=
  ∀ a r v : Half,
    WaitAnswers (.write a r v) (fun q => .write a r v (.finalWait q)) (endsWith .ok) (endsWith (.error .timeout))

/-- R30, R74: the word stored in `ADDR` depends on the low 8 bits of the two operands and on nothing else, and names the
cell of exactly those bits. -/
def Obligations.AddressPacking : Prop :=
  ∀ a r a' r' : Half,
    (packAddr a r).toNat = a.toNat % 256 * 256 + r.toNat % 256 ∧
    (packAddr a r = packAddr a' r' ↔ a.toNat % 256 = a'.toNat % 256 ∧ r.toNat % 256 = r'.toNat % 256) ∧
    (phyOfAddr (packAddr a r)).toNat = a.toNat % 256 ∧ (regOfAddr (packAddr a r)).toNat = r.toNat % 256

/-! ## Frames of the MDIO operations -/

/-- The frame of `wait_not_busy`, one micro-step: the sequencer, the history and the line's own state may change; of the
PHY cells only the one a write cycle in flight is going to change. -/
def Obligations.WaitNotBusyFrame : Prop :=
  ∀ s t : State, s.cfg.Valid → exec .waitNotBusy s = .next t →
    t = { s with
      mdioSeq := t.mdioSeq, history := t.history, ind := t.ind, status := t.status, pending := t.pending, phy := t.phy
      countdown := t.countdown, draws := t.draws, drawn := t.drawn } ∧
    ∀ n, s.cellInFlight ≠ some n → t.phy.read n = s.phy.read n

/-- The frame of `compute_divider`: only the history changes (R150: no register access, no state written). -/
def Obligations.ComputeDividerFrame : Prop :=
  ∀ s t : State, exec .computeDivider s = .next t → t = { s with history := t.history }

/-- The frame of `reset`, one micro-step: `CFG`, `ref_rate`, that a `reset` has answered OK, the sequencer, the clock
answers, the history, and by the engine reset `CMD`, `line.pending` and the busy bit (R154, R155, R196); no PHY cell,
not `STATUS`. -/
def Obligations.ResetFrame : Prop :=
  ∀ s t : State, s.cfg.Valid → exec .reset s = .next t →
    t = { s with
      resetDone := t.resetDone, cfgReg := t.cfgReg, refRate := t.refRate, cmd := t.cmd, pending := t.pending
      ind := t.ind, mdioSeq := t.mdioSeq, clkAnswers := t.clkAnswers, drawn := t.drawn, history := t.history } ∧
    (s.level = .openLine → t.cmd = s.cmd ∧ t.pending = s.pending ∧ t.ind = s.ind) ∧
    t.ind &&& ~~~s.cfg.indBusy = s.ind &&& ~~~s.cfg.indBusy

/-- The frame of `read`, one micro-step: `CMD`, `ADDR`, the sequencer, the history and the line's side; neither `CFG` nor
`CTRL` nor `ref_rate` (R34); of the PHY cells only the one a write cycle in flight is going to change. -/
def Obligations.ReadFrame : Prop :=
  ∀ (s t : State) (a r : Half), s.cfg.Valid → exec (.read a r) s = .next t →
    t = { s with
      cmd := t.cmd, addr := t.addr, mdioSeq := t.mdioSeq, history := t.history, ind := t.ind, status := t.status
      pending := t.pending, phy := t.phy, lineFault := t.lineFault, countdown := t.countdown, draws := t.draws
      turns := t.turns, drawn := t.drawn } ∧
    ∀ n, s.cellInFlight ≠ some n → t.phy.read n = s.phy.read n

/-- The frame of `write`, one micro-step: `ADDR`, `CTRL`, the sequencer, the history and the line's side; neither `CMD`
nor `CFG` nor `ref_rate` (R34, R170); of the PHY cells only the one a write cycle in flight is going to change. -/
def Obligations.WriteFrame : Prop :=
  ∀ (s t : State) (a r v : Half), s.cfg.Valid → exec (.write a r v) s = .next t →
    t = { s with
      addr := t.addr, ctrl := t.ctrl, mdioSeq := t.mdioSeq, history := t.history, ind := t.ind, status := t.status
      pending := t.pending, phy := t.phy, lineFault := t.lineFault, countdown := t.countdown, draws := t.draws
      turns := t.turns, drawn := t.drawn } ∧
    ∀ n, s.cellInFlight ≠ some n → t.phy.read n = s.phy.read n

/-! ## The line side -/

/-- R64: every store is followed at once by a load of the same offset, and the value read back changes nothing. -/
def Obligations.StoresAreReadBack : Prop :=
  ∀ (s t : State) (win : Window) (off : Nat) (v : Word), s.regWrite win off v = .ok t →
    ∃ (r : Reg) (x : Word), s.cfg.regAt win off = some r ∧ t.readReg r = v ∧
      t = { s.storeReg r v with history := s.history ++ [.st win off v, .ld win off x] }

/-- R61, R62, R66, R76: under a valid configuration every register has one offset, a multiple of 4, in one window, and
two registers never share one. The offsets are parameters, the spec's decisions D1 and D5. -/
def Obligations.AddressMap : Prop :=
  ∀ c : Config, c.Valid →
    (∀ p < c.portCount, c.regAt .selwin (p * c.stride) = some (if p = 0 then .miictrl0 else .miictrl1)) ∧
    c.regAt .mdiowin c.cfgOff = some .cfg ∧ c.regAt .mdiowin c.cmdOff = some .cmd ∧
    c.regAt .mdiowin c.addrOff = some .addr ∧ c.regAt .mdiowin c.ctrlOff = some .ctrl ∧
    c.regAt .mdiowin c.statusOff = some .status ∧ c.regAt .mdiowin c.indOff = some .ind ∧
    ∀ (win win' : Window) (off off' : Nat) (r : Reg), c.regAt win off = some r →
      off % 4 = 0 ∧ (c.regAt win' off' = some r → win' = win ∧ off' = off)

/-- R193, R197: what a store to `CMD` does on the levels that have a line: the change from WRITE-mode to READ-mode on an
idle line starts the read cycle of `ADDR`; `CMD_READ` over `CMD_READ` starts nothing; `CMD_WRITE` changes only the
latch. The spec's own decision D23. In a `read` or `write` before the first successful `reset` the engine may leave the
trigger, by a free choice (R243; log 29). -/
def Obligations.CommandStores : Prop :=
  ∀ s : State, s.cfg.Valid → s.level ≠ .openLine →
    (s.cmd = s.cfg.cmdWrite → s.pending = none →
      let started := s.withCycle (.rd ((s.addr >>> 8).setWidth 8) (s.addr.setWidth 8))
      (s.beforeReset = false → s.storeReg .cmd s.cfg.cmdRead = { started with cmd := s.cfg.cmdRead }) ∧
      (s.beforeReset = true → ∀ (b : Bool) (ts : List Bool) (n : Nat),
        (s.turns = b :: ts ∧ n = s.drawn ∨ s.turns = [] ∧ b = Config.freeTurn s.drawn ∧ ts = [] ∧ n = s.drawn + 1) →
        s.storeReg .cmd s.cfg.cmdRead = { (if b then started else s) with
          cmd := s.cfg.cmdRead, turns := ts, drawn := n })) ∧
    (s.cmd = s.cfg.cmdRead → s.pending = none → s.storeReg .cmd s.cfg.cmdRead = s) ∧
    s.storeReg .cmd s.cfg.cmdWrite = { s with cmd := s.cfg.cmdWrite }

/-- R199: the stores the line has no behaviour for set `line.fault`, start no cycle and keep the cycle in flight: a
trigger while busy, a `CTRL` store in READ-mode, a `CMD` value that is neither command. The spec's own decision D24;
that the register stored to still takes the word is log 14. -/
def Obligations.StoresWithoutBehaviour : Prop :=
  ∀ (s : State) (v : Word), s.cfg.Valid → s.level ≠ .openLine →
    (s.pending ≠ none → s.storeReg .cmd s.cfg.cmdRead = { s with cmd := s.cfg.cmdRead, lineFault := true }) ∧
    (s.pending ≠ none → s.storeReg .ctrl v = { s with ctrl := v, lineFault := true }) ∧
    (s.cmd = s.cfg.cmdRead → s.storeReg .ctrl v = { s with ctrl := v, lineFault := true }) ∧
    (v ≠ s.cfg.cmdRead → v ≠ s.cfg.cmdWrite → s.storeReg .cmd v = { s with cmd := v, lineFault := true })

/-- R195: LINE's completion step: a read cycle fills `STATUS[15:0]` from its cell, a write cycle writes its cell and no
other, and the line is idle; LINE takes the step or leaves it, and nothing else of its choice shows; with nothing in flight,
on SimPHY (R200) and on the open line (R191) its opportunity is nothing at all. The spec's own decision D23; when LINE may
choose is log 8. -/
def Obligations.CompletionOfACycle : Prop :=
  ∀ (s : State) (a r : Octet) (v : Half),
    (s.pending = some (.rd a r) →
      s.completeCycle = { s with
        pending := none, ind := s.ind &&& ~~~s.cfg.indBusy, status := s.completeCycle.status } ∧
      s.completeCycle.status.setWidth 16 = s.phy.read (cellNumber a r) ∧
      s.completeCycle.status >>> 16 = s.status >>> 16) ∧
    (s.pending = some (.wr a r v) → s.phy.wf = true →
      s.completeCycle = { s with
        pending := none, ind := s.ind &&& ~~~s.cfg.indBusy, phy := s.completeCycle.phy } ∧
      s.completeCycle.phy.read (cellNumber a r) = v ∧
      ∀ n, n ≠ cellNumber a r → s.completeCycle.phy.read n = s.phy.read n) ∧
    (s.level = .wellBehaved → s.pending ≠ none →
      (∀ ts, s.turns = true :: ts → s.lineTurn = { s with turns := ts }.completeCycle) ∧
      (∀ ts, s.turns = false :: ts → s.lineTurn = { s with turns := ts }) ∧
      (s.turns = [] → s.lineTurn = { s with drawn := s.drawn + 1 }.completeCycle ∨
        s.lineTurn = { s with drawn := s.drawn + 1 })) ∧
    (s.level ≠ .wellBehaved ∨ s.pending = none → s.lineTurn = s)

/-- R200: an Indicator load under SimPHY: with the countdown at 0 the cycle completes first and the load returns busy
clear; above 0 it goes down by one and the load returns busy set; with no cycle in flight the load returns busy clear
and nothing of the line changes; `ALWAYS_BUSY` never completes. The busy bit is taken to follow `line.pending`, which
`InvariantIsKept` keeps. The spec's own decision D23; that the register is driven at the load is log 11. A `read` or
`write` before the first successful `reset` sees an arbitrary word instead (R243; `OpenLineAssumesNothing`). -/
def Obligations.SimPhyIndicatorLoads : Prop :=
  ∀ (s : State) (l : Option Nat), s.cfg.Valid → s.level = .simPhy l → s.BusyFollowsPending → s.beforeReset = false →
    ∃ (w : Word) (t : State), s.regRead .mdiowin s.cfg.indOff = .ok (w, t) ∧ t.ind = w ∧
      w &&& ~~~s.cfg.indBusy = 0#32 ∧
      (s.pending = none → s.cfg.busyIn w = false ∧
        t = { s with ind := w, history := s.history ++ [.ld .mdiowin s.cfg.indOff w] }) ∧
      (s.pending ≠ none → (l = none ∨ 0 < s.countdown) → s.cfg.busyIn w = true ∧
        t = { s with
          ind := w, countdown := if l = none then s.countdown else s.countdown - 1
          history := s.history ++ [.ld .mdiowin s.cfg.indOff w] }) ∧
      (s.pending ≠ none → l ≠ none → s.countdown = 0 → s.cfg.busyIn w = false ∧
        t = { s.completeCycle with ind := w, history := s.history ++ [.ld .mdiowin s.cfg.indOff w] })

/-- R200: after a trigger under SimPHY(L) exactly L Indicator loads see the busy bit set, and load L+1 sees it clear.
The spec's own decision D23. -/
def Obligations.SimPhyLatency : Prop :=
  ∀ (s : State) (c : Cycle) (l k : Nat), s.cfg.Valid → s.level = .simPhy (some l) →
    (k < l → s.cfg.busyIn (State.driveInd^[k + 1] (s.withCycle c)).ind = true) ∧
    s.cfg.busyIn (State.driveInd^[l + 1] (s.withCycle c)).ind = false

/-- What a load changes (R67, R198, R200): a load of any register but `IND` and `STATUS` only records itself. A load of
`STATUS`, and on the open line and in `LINE` a load of `IND`, changes besides that register nothing but the record of the
line's choices; the cycle in flight, the PHY cells and the countdown are as before. Under SimPHY a load of `IND` may
complete the cycle in flight, and then changes no cell but that cycle's own. In a `read` or `write` before the first
successful `reset` the word seen is put in no register, and the rest is the same (R243; log 29). R67 and R198 are the
spec's own decision D21, R200 its decision D23; that `IND` and `STATUS` take at the load what the line drives is log 11.
-/
def Obligations.WhatALoadChanges : Prop :=
  ∀ (s t : State) (win : Window) (off : Nat) (v : Word), s.regRead win off = .ok (v, t) →
    ∃ r, s.cfg.regAt win off = some r ∧ (s.beforeReset = false → t.readReg r = v) ∧
      (r ≠ .ind → r ≠ .status → v = s.readReg r ∧ t = { s with history := s.history ++ [.ld win off v] }) ∧
      (r = .status → t = { s with
        status := if s.beforeReset then s.status else v
        draws := t.draws, drawn := t.drawn, history := s.history ++ [.ld win off v] }) ∧
      (r = .ind →
        ((∀ l, s.level ≠ .simPhy l) → t = { s with
          ind := if s.beforeReset then s.ind else v
          draws := t.draws, drawn := t.drawn, history := s.history ++ [.ld win off v] }) ∧
        ∀ l, s.level = .simPhy l →
          t = { s with
            ind := t.ind, status := t.status, pending := t.pending, phy := t.phy, countdown := t.countdown
            draws := t.draws, drawn := t.drawn, history := s.history ++ [.ld win off v] } ∧
          (s.beforeReset = false → t.ind = v ∧ t.draws = s.draws ∧ t.drawn = s.drawn) ∧
          (t.pending = s.pending → t.status = s.status ∧ t.phy = s.phy ∧ (s.beforeReset = true → t.ind = s.ind)) ∧
          ∀ n, s.cellInFlight ≠ some n → t.phy.read n = s.phy.read n)

/-- R198: the loads of the line's two registers in `LINE`: of `IND` the busy bit is as it is, so follows `line.pending`,
and every other bit is the line's choice; of `STATUS` bits 15..0 are the value fetched last and the rest the line's
choice; neither completes a cycle. Under SimPHY the bits left to choice are 0 (R200). The spec's own decisions D21 and
D23; the choice as a list and a free value is log 6, that the register takes the word driven is log 11. A `read` or
`write` before the first successful `reset` sees an arbitrary word instead (R243; `OpenLineAssumesNothing`). -/
def Obligations.LineLoads : Prop :=
  ∀ s : State, s.cfg.Valid → s.beforeReset = false →
    (s.level = .wellBehaved →
      ∀ (x : Word) (ds : List Word) (n : Nat),
        (s.draws = x :: ds ∧ n = s.drawn ∨ s.draws = [] ∧ x = Config.freeWord s.drawn ∧ ds = [] ∧ n = s.drawn + 1) →
        (∃ w, s.regRead .mdiowin s.cfg.indOff = .ok (w, { s with
              ind := w, draws := ds, drawn := n, history := s.history ++ [.ld .mdiowin s.cfg.indOff w] }) ∧
            w &&& s.cfg.indBusy = s.ind &&& s.cfg.indBusy ∧ w &&& ~~~s.cfg.indBusy = x &&& ~~~s.cfg.indBusy ∧
            (s.BusyFollowsPending → (s.cfg.busyIn w = true ↔ s.pending ≠ none))) ∧
        ∃ w, s.regRead .mdiowin s.cfg.statusOff = .ok (w, { s with
              status := w, draws := ds, drawn := n, history := s.history ++ [.ld .mdiowin s.cfg.statusOff w] }) ∧
            w.setWidth 16 = s.status.setWidth 16 ∧ w >>> 16 = x >>> 16) ∧
    ∀ l, s.level = .simPhy l →
      ∃ w, s.regRead .mdiowin s.cfg.statusOff = .ok (w, { s with
          status := w, history := s.history ++ [.ld .mdiowin s.cfg.statusOff w] }) ∧
        w.setWidth 16 = s.status.setWidth 16 ∧ w >>> 16 = 0#32

/-- R191: the open line: a load of `IND` or of `STATUS` returns a word chosen under no law, whatever was stored; a store
is recorded, changes the register stored to, and has no further effect. R243, U10: before the first successful `reset` a
`read` or `write` has no guarantee beyond the loads' part of it, on the levels that have a line too. The spec's own
decision D23; the oracle as a list and a free value is log 6; that the read-back returns the stored word is log 10
(against U17 and N24); which loads of R243 are free is log 29. -/
def Obligations.OpenLineAssumesNothing : Prop :=
  ∀ s : State, s.cfg.Valid →
    (s.level = .openLine ∨ s.beforeReset = true →
      (∀ x xs, s.draws = x :: xs →
        (∃ t, s.regRead .mdiowin s.cfg.indOff = .ok (x, t) ∧ t.draws = xs) ∧
        ∃ t, s.regRead .mdiowin s.cfg.statusOff = .ok (x, t) ∧ t.draws = xs) ∧
      (s.draws = [] →
        (∃ t, s.regRead .mdiowin s.cfg.indOff = .ok (Config.freeWord s.drawn, t) ∧ t.drawn = s.drawn + 1) ∧
        ∃ t, s.regRead .mdiowin s.cfg.statusOff = .ok (Config.freeWord s.drawn, t) ∧ t.drawn = s.drawn + 1)) ∧
    (s.beforeReset = true ↔ s.level ≠ .openLine ∧ s.resetDone = false ∧
      ((∃ a r p, s.mdioSeq = .read a r p) ∨ ∃ a r v p, s.mdioSeq = .write a r v p)) ∧
    (s.level = .openLine → ∀ (off : Nat) (v : Word) (t : State), s.regWrite .mdiowin off v = .ok t →
      ∃ r, s.cfg.regAt .mdiowin off = some r ∧ t = { s.setReg r v with
        history := s.history ++ [.st .mdiowin off v, .ld .mdiowin off v] })

/-- R201: the round trip on SimPHY(L) with L below the retry budget, from an idle bus in WRITE-mode, once a `reset` has
answered OK (R243): `write` returns OK and leaves the value in the cell, and a following `read` whose operands agree in
their low 8 bits returns it. R201 marks it as derived. -/
def Obligations.WriteThenReadRoundTrip : Prop :=
  ∀ (s : State) (a r v a' r' : Half) (l : Nat), s.cfg.Valid → s.level = .simPhy (some l) → l < s.cfg.retryBudget →
    s.resetDone = true → s.mdioSeq = .idle → s.InvNotBusy → s.InvCmdIdle → s.InvNoLineFault → s.phy.wf = true →
    a.toNat % 256 = a'.toNat % 256 → r.toNat % 256 = r'.toNat % 256 →
    s.requests = programRequests [.write a r v, .read a' r'] →
    ∃ (k : Nat) (t : State) (evs : List Event), runSteps k s = .next t ∧ t.requests = [] ∧ t.mdioSeq = .idle ∧
      t.InvNotBusy ∧ t.InvCmdIdle ∧ t.InvNoLineFault ∧ t.history = s.history ++ evs ∧
      evs.filterMap Event.result = [.ok, .okValue v.toNat] ∧
      t.phy.read (256 * (a.toNat % 256) + r.toNat % 256) = v ∧
      ∀ n, n ≠ 256 * (a.toNat % 256) + r.toNat % 256 → t.phy.read n = s.phy.read n

/-! ## The whole machine -/

/-- The invariant of the machine is kept by every step (R39, R150, R156, R158, R192). Its clauses on the canonical form
of the PHY cells and on the idle selector sequencer are the model's choice, logs 5 and 22; that the line's busy bit and
a `read`'s trigger are as they are is the spec's own decision D23. Before the first successful `reset` a `read` may arm
its cycle over a busy line (R243; log 29). -/
def Obligations.InvariantIsKept : Prop := ∀ s t : State, s.Inv → step s = .next t → t.Inv

/-- The invariant holds at power-on of every launch with a valid configuration and PHY cells in canonical form, and at
`State.reset`. `State.reset` is the model's choice of a launch, logs 2 to 9. -/
def Obligations.InvariantAtPowerOn : Prop :=
  (∀ l : Launch, l.cfg.Valid → l.phy.wf = true → (State.powerOn l).Inv) ∧ State.reset.Inv ∧ State.reset.CommandLatch

/-- R160, R166 (b), R170, R42: every step keeps the command latch at `CMD_WRITE`, but inside a `read` that has started
its cycle; so whenever no operation is open the latch is idle, on every line level. R166 marks it as derived; the
engine reset is the spec's own decision D23. -/
def Obligations.CommandLatchIsKept : Prop :=
  ∀ s t : State, s.CommandLatch → step s = .next t → t.CommandLatch ∧ (t.mdioSeq = .idle → t.InvCmdIdle)

/-- R199, R162: once the latch is idle between operations, the only thing that marks the line faulted is the `CTRL`
store of a `write` while a cycle is in flight; before the first successful `reset`, where a `read` may see any word at
its first wait (R243; log 29), its `CMD_READ` store as well. The spec's own decision D24. -/
def Obligations.OnlyATriggerWhileBusyFaultsTheLine : Prop :=
  ∀ s t : State, s.Inv → s.CommandLatch → s.lineFault = false → step s = .next t → t.lineFault = true →
    s.level ≠ .openLine ∧ s.pending ≠ none ∧
      ((∃ a r v, s.mdioSeq = .write a r v .storeCtrl) ∨
        (s.resetDone = false ∧ ∃ a r, s.mdioSeq = .read a r .storeRead))

/-- R199, R36, R243, R258: `line.fault` is never cleared; that a `reset` has answered OK is noted by the last micro-step
of a `reset`, for good; and no step changes the configuration or the line level. The mark is the spec's own decision
D24; the configuration and the level as state are logs 2 and 3. -/
def Obligations.StickyAndFixedState : Prop :=
  ∀ s t : State, step s = .next t →
    (s.lineFault = true → t.lineFault = true) ∧ (s.resetDone = true → t.resetDone = true) ∧
      (t.resetDone = true → s.resetDone = true ∨ s.mdioSeq = .reset .settleReleased) ∧ t.cfg = s.cfg ∧ t.level = s.level

/-- R66, R71, R76: no step ends in a fault: an offset that names no register is never accessed, and no operation stores
to `STATUS` or `IND`. The only refusals are the two of R227. The two faults are the model's, log 15. -/
def Obligations.NoStepFaults : Prop :=
  ∀ s : State, s.cfg.Valid →
    (∃ t, step s = .next t) ∨ step s = .refused (.componentBusy .sel) ∨ step s = .refused (.componentBusy .mdc)

/-- R39, R101, R257: with a serial host and an idle selector sequencer every step of a valid configuration answers a
next state, and the selector sequencer is idle again after it. The serial host is the model's reading of R101, log 9.
-/
def Obligations.SerialHostNeverStops : Prop :=
  ∀ s : State, s.cfg.Valid → s.SerialHost → s.selSeq = .idle →
    ∃ t, step s = .next t ∧ t.SerialHost ∧ t.selSeq = .idle

/-- R78: the history is read for nothing: with any other history the step does the same and adds the same events. -/
def Obligations.HistoryIsReadForNothing : Prop :=
  ∀ s t : State, step s = .next t →
    ∃ evs, t.history = s.history ++ evs ∧
      ∀ h, step { s with history := h } = .next { t with history := h ++ evs }

/-- R2, R166 (e): an operation of one component neither changes nor depends on the state of the other. -/
def Obligations.ComponentsAreIndependent : Prop :=
  ∀ (s t u : State) (i : Instr), exec i s = .next t →
    (componentOf i = .mdc →
      t.withSelSide s = t ∧ exec i (s.withSelSide u) = .next (t.withSelSide u)) ∧
    (componentOf i = .sel →
      t.withMdioSide s = t ∧ exec i (s.withMdioSide u) = .next (t.withMdioSide u))

/-- R164, R258: every step of an open operation brings its end nearer, whatever the line does, and with a serial host
the operation ends within the number of micro-steps its position allows. R164 marks the bounds as derived; a step is a
micro-step by log 1. -/
def Obligations.EveryOperationEnds : Prop :=
  ∀ s : State, s.cfg.Valid → s.SerialHost → s.mdioSeq ≠ .idle →
    ∃ (k : Nat) (t : State), k ≤ s.mdioSeq.stepsLeft s.cfg.retryBudget ∧ runSteps k s = .next t ∧ t.mdioSeq = .idle

/-- R164, R17, R257: every request is answered exactly once, and from its acceptance to the idle sequencer it takes at
most so many steps: `compute_divider` and the selector's operations one, `reset` five, a wait twice the budget and one
more. R164 marks the bounds as derived; a step is a micro-step by log 1. -/
def Obligations.MicroStepsOfAWholeOperation : Prop :=
  ∀ (s : State) (q : Request) (qs : List Request) (i : Instr), s.cfg.Valid → s.SerialHost → s.selSeq = .idle →
    s.mdioSeq = .idle → s.requests = q :: qs → decode q.word = .op i →
    ∃ (k : Nat) (t : State) (evs : List Event) (r : Result),
      (k ≤ match i with
        | .setInterfaceMode _ _ => 1
        | .setLinkSpeed _ _ => 1
        | .computeDivider => 1
        | .reset => 5
        | .waitNotBusy => 2 * s.cfg.retryBudget + 1
        | .read _ _ => 2 * (2 * s.cfg.retryBudget + 1) + 6
        | .write _ _ _ => 2 * s.cfg.retryBudget + 3) ∧
      runSteps k s = .next t ∧ t.requests = qs ∧ t.selSeq = .idle ∧ t.mdioSeq = .idle ∧
      t.history = s.history ++ .req i :: (evs ++ [.resp (some (componentOf i)) r]) ∧
      (∀ e ∈ evs, e.result = none) ∧ resultAllowed i r = true

/-- R17, R212, R226, R257: which results each operation can return; none returns NotFound or NotReady, a selector
operation never Timeout or HardwareFault, `reset` never Timeout. A step of an operation sends one response, its last
event, exactly when it is the operation's last: the sequencer is idle after it, and only then. R212 marks the table as
derived. -/
def Obligations.ResultsOfEachOperation : Prop :=
  ∀ (s t : State) (i : Instr), s.cfg.Valid → exec i s = .next t →
    ∃ evs, t.history = s.history ++ evs ∧
      (evs.filterMap Event.result = [] ∨
        ∃ r, evs.filterMap Event.result = [r] ∧ resultAllowed i r = true ∧
          evs.getLast? = some (.resp (some (componentOf i)) r)) ∧
      (componentOf i = .mdc → (t.mdioSeq = .idle ↔ evs.filterMap Event.result ≠ [])) ∧
      (componentOf i = .sel → t.selSeq = .idle ∧ evs.filterMap Event.result ≠ [])
end

