-- ==== Sys2Proof/Laws/Decode.lean ====
section
/-! SUPPORT. The fields of a packed request word, and a request word from its fields (30_encoding.md R91). -/

namespace Sys2Proof

@[simp] theorem opcField_packQ (o : Octet) (a b c : Half) : opcField (packQ o a b c) = o := by
  apply BitVec.eq_of_getLsbD_eq
  intro i hi
  have h1 : 56 + i < 64 := by omega
  have h2 := BitVec.getLsbD_of_ge c (56 + i) (by omega)
  have h4 : 16 ≤ 56 + i - 32 := by omega
  have h5 : 16 ≤ 56 + i - 16 := by omega
  simp [opcField, packQ, hi, h1, h2, h4, h5]

@[simp] theorem zField_packQ (o : Octet) (a b c : Half) : zField (packQ o a b c) = 0#8 := by
  apply BitVec.eq_of_getLsbD_eq
  intro i hi
  have h1 : 48 + i < 56 := by omega
  have h2 := BitVec.getLsbD_of_ge c (48 + i) (by omega)
  have h4 : 16 ≤ 48 + i - 32 := by omega
  have h5 : 16 ≤ 48 + i - 16 := by omega
  simp [zField, packQ, hi, h1, h2, h4, h5]

@[simp] theorem aField_packQ (o : Octet) (a b c : Half) : aField (packQ o a b c) = a := by
  apply BitVec.eq_of_getLsbD_eq
  intro i hi
  have h1 : 32 + i < 64 := by omega
  have h2 : 32 + i < 56 := by omega
  have h3 := BitVec.getLsbD_of_ge c (32 + i) (by omega)
  have h5 := BitVec.getLsbD_of_ge b (32 + i - 16) (by omega)
  simp [aField, packQ, hi, h1, h2, h3, h5]

@[simp] theorem bField_packQ (o : Octet) (a b c : Half) : bField (packQ o a b c) = b := by
  apply BitVec.eq_of_getLsbD_eq
  intro i hi
  have h1 : 16 + i < 64 := by omega
  have h2 : 16 + i < 56 := by omega
  have h4 : 16 + i < 32 := by omega
  simp [bField, packQ, hi, h1, h2, h4]

@[simp] theorem cField_packQ (o : Octet) (a b c : Half) : cField (packQ o a b c) = c := by
  apply BitVec.eq_of_getLsbD_eq
  intro i hi
  have h1 : i < 64 := by omega
  have h2 : i < 56 := by omega
  have h4 : i < 32 := by omega
  simp [cField, packQ, hi, h1, h2, h4]

/-- A word whose `Z` is zero is its fields. -/
theorem packQ_fields {w : RequestWord} (hz : zField w = 0#8) :
    packQ (opcField w) (aField w) (bField w) (cField w) = w := by
  apply BitVec.eq_of_getLsbD_eq
  intro i hi
  have hz' : ∀ k, k < 8 → w.getLsbD (48 + k) = false := by
    intro k hk
    have := congrArg (fun x => x.getLsbD k) hz
    simpa [zField, hk] using this
  simp only [packQ, opcField, aField, bField, cField, BitVec.getLsbD_or, BitVec.getLsbD_shiftLeft,
    BitVec.getLsbD_setWidth, BitVec.getLsbD_extractLsb', hi]
  by_cases h1 : i < 16
  · have h2 : i < 32 := by omega
    have h3 : i < 56 := by omega
    simp [h1, h2, h3]
  · by_cases h2 : i < 32
    · have h3 : i < 56 := by omega
      have h4 : i - 16 < 16 := by omega
      have h5 : i - 16 < 64 := by omega
      have h6 : 16 + (i - 16) = i := by omega
      simp [h1, h2, h3, h4, h5, h6]
    · by_cases h3 : i < 48
      · have h4 : i < 56 := by omega
        have h5 : ¬i - 16 < 16 := by omega
        have h6 : i - 32 < 16 := by omega
        have h7 : i - 32 < 64 := by omega
        have h8 : 32 + (i - 32) = i := by omega
        simp [h1, h2, h4, h5, h6, h7, h8]
      · have h5 : ¬i - 16 < 16 := by omega
        have h6 : ¬i - 32 < 16 := by omega
        by_cases h4 : i < 56
        · have h9 := hz' (i - 48) (by omega)
          have h10 : 48 + (i - 48) = i := by omega
          rw [h10] at h9
          simp [h1, h2, h4, h5, h6, h9]
        · have h7 : i - 56 < 8 := by omega
          have h8 : i - 56 < 64 := by omega
          have h9 : 56 + (i - 56) = i := by omega
          simp [h1, h2, h4, h5, h6, h7, h8, h9]

/-- A packed word under a mask is the packing of the fields under the mask's fields. -/
theorem packQ_and (o : Octet) (a b c : Half) (m : RequestWord) :
    packQ o a b c &&& m = packQ (o &&& opcField m) (a &&& aField m) (b &&& bField m) (c &&& cField m) := by
  have h1 : opcField (packQ o a b c &&& m) = o &&& opcField m := by
    have h := opcField_packQ o a b c
    simp only [opcField] at h
    simp only [opcField, BitVec.extractLsb'_and, h]
  have h2 : aField (packQ o a b c &&& m) = a &&& aField m := by
    have h := aField_packQ o a b c
    simp only [aField] at h
    simp only [aField, BitVec.extractLsb'_and, h]
  have h3 : bField (packQ o a b c &&& m) = b &&& bField m := by
    have h := bField_packQ o a b c
    simp only [bField] at h
    simp only [bField, BitVec.extractLsb'_and, h]
  have h4 : cField (packQ o a b c &&& m) = c &&& cField m := by
    have h := cField_packQ o a b c
    simp only [cField] at h
    simp only [cField, BitVec.extractLsb'_and, h]
  have hz : zField (packQ o a b c &&& m) = 0#8 := by
    have := zField_packQ o a b c
    simp only [zField] at this
    simp only [zField, BitVec.extractLsb'_and, this, BitVec.zero_and]
  rw [← packQ_fields hz, h1, h2, h3, h4]

/-- The mode operand of a field value is well formed and has that field value (R94). -/
theorem modeOfField_wf (b : Half) : (modeOfField b).wf = true ∧ fieldOfMode (modeOfField b) = b := by
  unfold modeOfField
  split
  · simp_all [ModeOperand.wf, fieldOfMode]
  · split
    · simp_all [ModeOperand.wf, fieldOfMode]
    · split
      · simp_all [ModeOperand.wf, fieldOfMode]
      · split
        · simp_all [ModeOperand.wf, fieldOfMode]
        · rename_i h0 h1 h2 h3
          refine ⟨?_, rfl⟩
          simp only [ModeOperand.wf, decide_eq_true_eq]
          by_contra hle
          have hb : b.toNat = 0 ∨ b.toNat = 1 ∨ b.toNat = 2 ∨ b.toNat = 3 := by omega
          rcases hb with h | h | h | h
          · exact h0 (BitVec.eq_of_toNat_eq h)
          · exact h1 (BitVec.eq_of_toNat_eq h)
          · exact h2 (BitVec.eq_of_toNat_eq h)
          · exact h3 (BitVec.eq_of_toNat_eq h)

/-- A well-formed mode operand is the reading of its field value (R94). -/
theorem modeOfField_fieldOfMode {m : ModeOperand} (h : m.wf = true) : modeOfField (fieldOfMode m) = m := by
  cases m with
  | named m => cases m <;> rfl
  | unnamed n =>
    simp only [ModeOperand.wf, decide_eq_true_eq] at h
    have hne : ∀ k : Half, k.toNat ≤ 3 → n ≠ k := by
      intro k hk hn
      rw [hn] at h
      omega
    have h0 := hne 0#16 (by decide)
    have h1 := hne 1#16 (by decide)
    have h2 := hne 2#16 (by decide)
    have h3 := hne 3#16 (by decide)
    change modeOfField n = _
    simp only [modeOfField, h0, h1, h2, h3, if_false]

end Sys2Proof
end

