-- ==== Sys2Proof/Laws/State.lean ====
section
/-! SUPPORT. One lemma per field per update of State, so that no later proof unfolds a record update. -/

namespace Sys2Proof.Machine

variable (s : State)


/-! ### record -/

@[simp] theorem State.record_cfg (e : Event) : (s.record e).cfg = s.cfg := rfl
@[simp] theorem State.record_level (e : Event) : (s.record e).level = s.level := rfl
@[simp] theorem State.record_resetDone (e : Event) : (s.record e).resetDone = s.resetDone := rfl
@[simp] theorem State.record_miictrl0 (e : Event) : (s.record e).miictrl0 = s.miictrl0 := rfl
@[simp] theorem State.record_miictrl1 (e : Event) : (s.record e).miictrl1 = s.miictrl1 := rfl
@[simp] theorem State.record_cfgReg (e : Event) : (s.record e).cfgReg = s.cfgReg := rfl
@[simp] theorem State.record_cmd (e : Event) : (s.record e).cmd = s.cmd := rfl
@[simp] theorem State.record_addr (e : Event) : (s.record e).addr = s.addr := rfl
@[simp] theorem State.record_ctrl (e : Event) : (s.record e).ctrl = s.ctrl := rfl
@[simp] theorem State.record_status (e : Event) : (s.record e).status = s.status := rfl
@[simp] theorem State.record_ind (e : Event) : (s.record e).ind = s.ind := rfl
@[simp] theorem State.record_refRate (e : Event) : (s.record e).refRate = s.refRate := rfl
@[simp] theorem State.record_selSeq (e : Event) : (s.record e).selSeq = s.selSeq := rfl
@[simp] theorem State.record_mdioSeq (e : Event) : (s.record e).mdioSeq = s.mdioSeq := rfl
@[simp] theorem State.record_pending (e : Event) : (s.record e).pending = s.pending := rfl
@[simp] theorem State.record_phy (e : Event) : (s.record e).phy = s.phy := rfl
@[simp] theorem State.record_lineFault (e : Event) : (s.record e).lineFault = s.lineFault := rfl
@[simp] theorem State.record_countdown (e : Event) : (s.record e).countdown = s.countdown := rfl
@[simp] theorem State.record_requests (e : Event) : (s.record e).requests = s.requests := rfl
@[simp] theorem State.record_clkAnswers (e : Event) : (s.record e).clkAnswers = s.clkAnswers := rfl
@[simp] theorem State.record_draws (e : Event) : (s.record e).draws = s.draws := rfl
@[simp] theorem State.record_turns (e : Event) : (s.record e).turns = s.turns := rfl
@[simp] theorem State.record_drawn (e : Event) : (s.record e).drawn = s.drawn := rfl
@[simp] theorem State.record_history (e : Event) : (s.record e).history = s.history ++ [e] := rfl

/-! ### delay -/

@[simp] theorem State.delay_cfg (us : Nat) : (s.delay us).cfg = s.cfg := rfl
@[simp] theorem State.delay_level (us : Nat) : (s.delay us).level = s.level := rfl
@[simp] theorem State.delay_resetDone (us : Nat) : (s.delay us).resetDone = s.resetDone := rfl
@[simp] theorem State.delay_miictrl0 (us : Nat) : (s.delay us).miictrl0 = s.miictrl0 := rfl
@[simp] theorem State.delay_miictrl1 (us : Nat) : (s.delay us).miictrl1 = s.miictrl1 := rfl
@[simp] theorem State.delay_cfgReg (us : Nat) : (s.delay us).cfgReg = s.cfgReg := rfl
@[simp] theorem State.delay_cmd (us : Nat) : (s.delay us).cmd = s.cmd := rfl
@[simp] theorem State.delay_addr (us : Nat) : (s.delay us).addr = s.addr := rfl
@[simp] theorem State.delay_ctrl (us : Nat) : (s.delay us).ctrl = s.ctrl := rfl
@[simp] theorem State.delay_status (us : Nat) : (s.delay us).status = s.status := rfl
@[simp] theorem State.delay_ind (us : Nat) : (s.delay us).ind = s.ind := rfl
@[simp] theorem State.delay_refRate (us : Nat) : (s.delay us).refRate = s.refRate := rfl
@[simp] theorem State.delay_selSeq (us : Nat) : (s.delay us).selSeq = s.selSeq := rfl
@[simp] theorem State.delay_mdioSeq (us : Nat) : (s.delay us).mdioSeq = s.mdioSeq := rfl
@[simp] theorem State.delay_pending (us : Nat) : (s.delay us).pending = s.pending := rfl
@[simp] theorem State.delay_phy (us : Nat) : (s.delay us).phy = s.phy := rfl
@[simp] theorem State.delay_lineFault (us : Nat) : (s.delay us).lineFault = s.lineFault := rfl
@[simp] theorem State.delay_countdown (us : Nat) : (s.delay us).countdown = s.countdown := rfl
@[simp] theorem State.delay_requests (us : Nat) : (s.delay us).requests = s.requests := rfl
@[simp] theorem State.delay_clkAnswers (us : Nat) : (s.delay us).clkAnswers = s.clkAnswers := rfl
@[simp] theorem State.delay_draws (us : Nat) : (s.delay us).draws = s.draws := rfl
@[simp] theorem State.delay_turns (us : Nat) : (s.delay us).turns = s.turns := rfl
@[simp] theorem State.delay_drawn (us : Nat) : (s.delay us).drawn = s.drawn := rfl
@[simp] theorem State.delay_history (us : Nat) : (s.delay us).history = s.history ++ [.delay us] := rfl

/-! ### openSel -/

@[simp] theorem State.openSel_cfg (i : Instr) : (s.openSel i).cfg = s.cfg := rfl
@[simp] theorem State.openSel_level (i : Instr) : (s.openSel i).level = s.level := rfl
@[simp] theorem State.openSel_resetDone (i : Instr) : (s.openSel i).resetDone = s.resetDone := rfl
@[simp] theorem State.openSel_miictrl0 (i : Instr) : (s.openSel i).miictrl0 = s.miictrl0 := rfl
@[simp] theorem State.openSel_miictrl1 (i : Instr) : (s.openSel i).miictrl1 = s.miictrl1 := rfl
@[simp] theorem State.openSel_cfgReg (i : Instr) : (s.openSel i).cfgReg = s.cfgReg := rfl
@[simp] theorem State.openSel_cmd (i : Instr) : (s.openSel i).cmd = s.cmd := rfl
@[simp] theorem State.openSel_addr (i : Instr) : (s.openSel i).addr = s.addr := rfl
@[simp] theorem State.openSel_ctrl (i : Instr) : (s.openSel i).ctrl = s.ctrl := rfl
@[simp] theorem State.openSel_status (i : Instr) : (s.openSel i).status = s.status := rfl
@[simp] theorem State.openSel_ind (i : Instr) : (s.openSel i).ind = s.ind := rfl
@[simp] theorem State.openSel_refRate (i : Instr) : (s.openSel i).refRate = s.refRate := rfl
@[simp] theorem State.openSel_selSeq (i : Instr) : (s.openSel i).selSeq = .running := rfl
@[simp] theorem State.openSel_mdioSeq (i : Instr) : (s.openSel i).mdioSeq = s.mdioSeq := rfl
@[simp] theorem State.openSel_pending (i : Instr) : (s.openSel i).pending = s.pending := rfl
@[simp] theorem State.openSel_phy (i : Instr) : (s.openSel i).phy = s.phy := rfl
@[simp] theorem State.openSel_lineFault (i : Instr) : (s.openSel i).lineFault = s.lineFault := rfl
@[simp] theorem State.openSel_countdown (i : Instr) : (s.openSel i).countdown = s.countdown := rfl
@[simp] theorem State.openSel_requests (i : Instr) : (s.openSel i).requests = s.requests := rfl
@[simp] theorem State.openSel_clkAnswers (i : Instr) : (s.openSel i).clkAnswers = s.clkAnswers := rfl
@[simp] theorem State.openSel_draws (i : Instr) : (s.openSel i).draws = s.draws := rfl
@[simp] theorem State.openSel_turns (i : Instr) : (s.openSel i).turns = s.turns := rfl
@[simp] theorem State.openSel_drawn (i : Instr) : (s.openSel i).drawn = s.drawn := rfl
@[simp] theorem State.openSel_history (i : Instr) : (s.openSel i).history = s.history ++ [.req i] := rfl

/-! ### openMdc -/

@[simp] theorem State.openMdc_cfg (i : Instr) (q : MdioSeq) : (s.openMdc i q).cfg = s.cfg := rfl
@[simp] theorem State.openMdc_level (i : Instr) (q : MdioSeq) : (s.openMdc i q).level = s.level := rfl
@[simp] theorem State.openMdc_resetDone (i : Instr) (q : MdioSeq) : (s.openMdc i q).resetDone = s.resetDone := rfl
@[simp] theorem State.openMdc_miictrl0 (i : Instr) (q : MdioSeq) : (s.openMdc i q).miictrl0 = s.miictrl0 := rfl
@[simp] theorem State.openMdc_miictrl1 (i : Instr) (q : MdioSeq) : (s.openMdc i q).miictrl1 = s.miictrl1 := rfl
@[simp] theorem State.openMdc_cfgReg (i : Instr) (q : MdioSeq) : (s.openMdc i q).cfgReg = s.cfgReg := rfl
@[simp] theorem State.openMdc_cmd (i : Instr) (q : MdioSeq) : (s.openMdc i q).cmd = s.cmd := rfl
@[simp] theorem State.openMdc_addr (i : Instr) (q : MdioSeq) : (s.openMdc i q).addr = s.addr := rfl
@[simp] theorem State.openMdc_ctrl (i : Instr) (q : MdioSeq) : (s.openMdc i q).ctrl = s.ctrl := rfl
@[simp] theorem State.openMdc_status (i : Instr) (q : MdioSeq) : (s.openMdc i q).status = s.status := rfl
@[simp] theorem State.openMdc_ind (i : Instr) (q : MdioSeq) : (s.openMdc i q).ind = s.ind := rfl
@[simp] theorem State.openMdc_refRate (i : Instr) (q : MdioSeq) : (s.openMdc i q).refRate = s.refRate := rfl
@[simp] theorem State.openMdc_selSeq (i : Instr) (q : MdioSeq) : (s.openMdc i q).selSeq = s.selSeq := rfl
@[simp] theorem State.openMdc_mdioSeq (i : Instr) (q : MdioSeq) : (s.openMdc i q).mdioSeq = q := rfl
@[simp] theorem State.openMdc_pending (i : Instr) (q : MdioSeq) : (s.openMdc i q).pending = s.pending := rfl
@[simp] theorem State.openMdc_phy (i : Instr) (q : MdioSeq) : (s.openMdc i q).phy = s.phy := rfl
@[simp] theorem State.openMdc_lineFault (i : Instr) (q : MdioSeq) : (s.openMdc i q).lineFault = s.lineFault := rfl
@[simp] theorem State.openMdc_countdown (i : Instr) (q : MdioSeq) : (s.openMdc i q).countdown = s.countdown := rfl
@[simp] theorem State.openMdc_requests (i : Instr) (q : MdioSeq) : (s.openMdc i q).requests = s.requests := rfl
@[simp] theorem State.openMdc_clkAnswers (i : Instr) (q : MdioSeq) : (s.openMdc i q).clkAnswers = s.clkAnswers := rfl
@[simp] theorem State.openMdc_draws (i : Instr) (q : MdioSeq) : (s.openMdc i q).draws = s.draws := rfl
@[simp] theorem State.openMdc_turns (i : Instr) (q : MdioSeq) : (s.openMdc i q).turns = s.turns := rfl
@[simp] theorem State.openMdc_drawn (i : Instr) (q : MdioSeq) : (s.openMdc i q).drawn = s.drawn := rfl
@[simp] theorem State.openMdc_history (i : Instr) (q : MdioSeq) : (s.openMdc i q).history = s.history ++ [.req i] := rfl

/-! ### answerSel -/

@[simp] theorem State.answerSel_cfg (r : Result) : (s.answerSel r).cfg = s.cfg := rfl
@[simp] theorem State.answerSel_level (r : Result) : (s.answerSel r).level = s.level := rfl
@[simp] theorem State.answerSel_resetDone (r : Result) : (s.answerSel r).resetDone = s.resetDone := rfl
@[simp] theorem State.answerSel_miictrl0 (r : Result) : (s.answerSel r).miictrl0 = s.miictrl0 := rfl
@[simp] theorem State.answerSel_miictrl1 (r : Result) : (s.answerSel r).miictrl1 = s.miictrl1 := rfl
@[simp] theorem State.answerSel_cfgReg (r : Result) : (s.answerSel r).cfgReg = s.cfgReg := rfl
@[simp] theorem State.answerSel_cmd (r : Result) : (s.answerSel r).cmd = s.cmd := rfl
@[simp] theorem State.answerSel_addr (r : Result) : (s.answerSel r).addr = s.addr := rfl
@[simp] theorem State.answerSel_ctrl (r : Result) : (s.answerSel r).ctrl = s.ctrl := rfl
@[simp] theorem State.answerSel_status (r : Result) : (s.answerSel r).status = s.status := rfl
@[simp] theorem State.answerSel_ind (r : Result) : (s.answerSel r).ind = s.ind := rfl
@[simp] theorem State.answerSel_refRate (r : Result) : (s.answerSel r).refRate = s.refRate := rfl
@[simp] theorem State.answerSel_selSeq (r : Result) : (s.answerSel r).selSeq = .idle := rfl
@[simp] theorem State.answerSel_mdioSeq (r : Result) : (s.answerSel r).mdioSeq = s.mdioSeq := rfl
@[simp] theorem State.answerSel_pending (r : Result) : (s.answerSel r).pending = s.pending := rfl
@[simp] theorem State.answerSel_phy (r : Result) : (s.answerSel r).phy = s.phy := rfl
@[simp] theorem State.answerSel_lineFault (r : Result) : (s.answerSel r).lineFault = s.lineFault := rfl
@[simp] theorem State.answerSel_countdown (r : Result) : (s.answerSel r).countdown = s.countdown := rfl
@[simp] theorem State.answerSel_requests (r : Result) : (s.answerSel r).requests = s.requests := rfl
@[simp] theorem State.answerSel_clkAnswers (r : Result) : (s.answerSel r).clkAnswers = s.clkAnswers := rfl
@[simp] theorem State.answerSel_draws (r : Result) : (s.answerSel r).draws = s.draws := rfl
@[simp] theorem State.answerSel_turns (r : Result) : (s.answerSel r).turns = s.turns := rfl
@[simp] theorem State.answerSel_drawn (r : Result) : (s.answerSel r).drawn = s.drawn := rfl
@[simp] theorem State.answerSel_history (r : Result) : (s.answerSel r).history = s.history ++ [.resp (some .sel) r] := rfl

/-! ### answerMdc -/

@[simp] theorem State.answerMdc_cfg (r : Result) : (s.answerMdc r).cfg = s.cfg := rfl
@[simp] theorem State.answerMdc_level (r : Result) : (s.answerMdc r).level = s.level := rfl
@[simp] theorem State.answerMdc_resetDone (r : Result) : (s.answerMdc r).resetDone = s.resetDone := rfl
@[simp] theorem State.answerMdc_miictrl0 (r : Result) : (s.answerMdc r).miictrl0 = s.miictrl0 := rfl
@[simp] theorem State.answerMdc_miictrl1 (r : Result) : (s.answerMdc r).miictrl1 = s.miictrl1 := rfl
@[simp] theorem State.answerMdc_cfgReg (r : Result) : (s.answerMdc r).cfgReg = s.cfgReg := rfl
@[simp] theorem State.answerMdc_cmd (r : Result) : (s.answerMdc r).cmd = s.cmd := rfl
@[simp] theorem State.answerMdc_addr (r : Result) : (s.answerMdc r).addr = s.addr := rfl
@[simp] theorem State.answerMdc_ctrl (r : Result) : (s.answerMdc r).ctrl = s.ctrl := rfl
@[simp] theorem State.answerMdc_status (r : Result) : (s.answerMdc r).status = s.status := rfl
@[simp] theorem State.answerMdc_ind (r : Result) : (s.answerMdc r).ind = s.ind := rfl
@[simp] theorem State.answerMdc_refRate (r : Result) : (s.answerMdc r).refRate = s.refRate := rfl
@[simp] theorem State.answerMdc_selSeq (r : Result) : (s.answerMdc r).selSeq = s.selSeq := rfl
@[simp] theorem State.answerMdc_mdioSeq (r : Result) : (s.answerMdc r).mdioSeq = .idle := rfl
@[simp] theorem State.answerMdc_pending (r : Result) : (s.answerMdc r).pending = s.pending := rfl
@[simp] theorem State.answerMdc_phy (r : Result) : (s.answerMdc r).phy = s.phy := rfl
@[simp] theorem State.answerMdc_lineFault (r : Result) : (s.answerMdc r).lineFault = s.lineFault := rfl
@[simp] theorem State.answerMdc_countdown (r : Result) : (s.answerMdc r).countdown = s.countdown := rfl
@[simp] theorem State.answerMdc_requests (r : Result) : (s.answerMdc r).requests = s.requests := rfl
@[simp] theorem State.answerMdc_clkAnswers (r : Result) : (s.answerMdc r).clkAnswers = s.clkAnswers := rfl
@[simp] theorem State.answerMdc_draws (r : Result) : (s.answerMdc r).draws = s.draws := rfl
@[simp] theorem State.answerMdc_turns (r : Result) : (s.answerMdc r).turns = s.turns := rfl
@[simp] theorem State.answerMdc_drawn (r : Result) : (s.answerMdc r).drawn = s.drawn := rfl
@[simp] theorem State.answerMdc_history (r : Result) : (s.answerMdc r).history = s.history ++ [.resp (some .mdc) r] := rfl

/-! ### goTo -/

@[simp] theorem State.goTo_cfg (q : MdioSeq) : (s.goTo q).cfg = s.cfg := rfl
@[simp] theorem State.goTo_level (q : MdioSeq) : (s.goTo q).level = s.level := rfl
@[simp] theorem State.goTo_resetDone (q : MdioSeq) : (s.goTo q).resetDone = s.resetDone := rfl
@[simp] theorem State.goTo_miictrl0 (q : MdioSeq) : (s.goTo q).miictrl0 = s.miictrl0 := rfl
@[simp] theorem State.goTo_miictrl1 (q : MdioSeq) : (s.goTo q).miictrl1 = s.miictrl1 := rfl
@[simp] theorem State.goTo_cfgReg (q : MdioSeq) : (s.goTo q).cfgReg = s.cfgReg := rfl
@[simp] theorem State.goTo_cmd (q : MdioSeq) : (s.goTo q).cmd = s.cmd := rfl
@[simp] theorem State.goTo_addr (q : MdioSeq) : (s.goTo q).addr = s.addr := rfl
@[simp] theorem State.goTo_ctrl (q : MdioSeq) : (s.goTo q).ctrl = s.ctrl := rfl
@[simp] theorem State.goTo_status (q : MdioSeq) : (s.goTo q).status = s.status := rfl
@[simp] theorem State.goTo_ind (q : MdioSeq) : (s.goTo q).ind = s.ind := rfl
@[simp] theorem State.goTo_refRate (q : MdioSeq) : (s.goTo q).refRate = s.refRate := rfl
@[simp] theorem State.goTo_selSeq (q : MdioSeq) : (s.goTo q).selSeq = s.selSeq := rfl
@[simp] theorem State.goTo_mdioSeq (q : MdioSeq) : (s.goTo q).mdioSeq = q := rfl
@[simp] theorem State.goTo_pending (q : MdioSeq) : (s.goTo q).pending = s.pending := rfl
@[simp] theorem State.goTo_phy (q : MdioSeq) : (s.goTo q).phy = s.phy := rfl
@[simp] theorem State.goTo_lineFault (q : MdioSeq) : (s.goTo q).lineFault = s.lineFault := rfl
@[simp] theorem State.goTo_countdown (q : MdioSeq) : (s.goTo q).countdown = s.countdown := rfl
@[simp] theorem State.goTo_requests (q : MdioSeq) : (s.goTo q).requests = s.requests := rfl
@[simp] theorem State.goTo_clkAnswers (q : MdioSeq) : (s.goTo q).clkAnswers = s.clkAnswers := rfl
@[simp] theorem State.goTo_draws (q : MdioSeq) : (s.goTo q).draws = s.draws := rfl
@[simp] theorem State.goTo_turns (q : MdioSeq) : (s.goTo q).turns = s.turns := rfl
@[simp] theorem State.goTo_drawn (q : MdioSeq) : (s.goTo q).drawn = s.drawn := rfl
@[simp] theorem State.goTo_history (q : MdioSeq) : (s.goTo q).history = s.history := rfl

/-! ### markReset -/

@[simp] theorem State.markReset_cfg : (s.markReset).cfg = s.cfg := rfl
@[simp] theorem State.markReset_level : (s.markReset).level = s.level := rfl
@[simp] theorem State.markReset_miictrl0 : (s.markReset).miictrl0 = s.miictrl0 := rfl
@[simp] theorem State.markReset_miictrl1 : (s.markReset).miictrl1 = s.miictrl1 := rfl
@[simp] theorem State.markReset_cfgReg : (s.markReset).cfgReg = s.cfgReg := rfl
@[simp] theorem State.markReset_cmd : (s.markReset).cmd = s.cmd := rfl
@[simp] theorem State.markReset_addr : (s.markReset).addr = s.addr := rfl
@[simp] theorem State.markReset_ctrl : (s.markReset).ctrl = s.ctrl := rfl
@[simp] theorem State.markReset_status : (s.markReset).status = s.status := rfl
@[simp] theorem State.markReset_ind : (s.markReset).ind = s.ind := rfl
@[simp] theorem State.markReset_refRate : (s.markReset).refRate = s.refRate := rfl
@[simp] theorem State.markReset_selSeq : (s.markReset).selSeq = s.selSeq := rfl
@[simp] theorem State.markReset_mdioSeq : (s.markReset).mdioSeq = s.mdioSeq := rfl
@[simp] theorem State.markReset_pending : (s.markReset).pending = s.pending := rfl
@[simp] theorem State.markReset_resetDone : (s.markReset).resetDone = true := rfl
@[simp] theorem State.markReset_phy : (s.markReset).phy = s.phy := rfl
@[simp] theorem State.markReset_lineFault : (s.markReset).lineFault = s.lineFault := rfl
@[simp] theorem State.markReset_countdown : (s.markReset).countdown = s.countdown := rfl
@[simp] theorem State.markReset_requests : (s.markReset).requests = s.requests := rfl
@[simp] theorem State.markReset_clkAnswers : (s.markReset).clkAnswers = s.clkAnswers := rfl
@[simp] theorem State.markReset_draws : (s.markReset).draws = s.draws := rfl
@[simp] theorem State.markReset_turns : (s.markReset).turns = s.turns := rfl
@[simp] theorem State.markReset_drawn : (s.markReset).drawn = s.drawn := rfl
@[simp] theorem State.markReset_history : (s.markReset).history = s.history := rfl

/-! ### markFault -/

@[simp] theorem State.markFault_cfg : (s.markFault).cfg = s.cfg := rfl
@[simp] theorem State.markFault_level : (s.markFault).level = s.level := rfl
@[simp] theorem State.markFault_resetDone : (s.markFault).resetDone = s.resetDone := rfl
@[simp] theorem State.markFault_miictrl0 : (s.markFault).miictrl0 = s.miictrl0 := rfl
@[simp] theorem State.markFault_miictrl1 : (s.markFault).miictrl1 = s.miictrl1 := rfl
@[simp] theorem State.markFault_cfgReg : (s.markFault).cfgReg = s.cfgReg := rfl
@[simp] theorem State.markFault_cmd : (s.markFault).cmd = s.cmd := rfl
@[simp] theorem State.markFault_addr : (s.markFault).addr = s.addr := rfl
@[simp] theorem State.markFault_ctrl : (s.markFault).ctrl = s.ctrl := rfl
@[simp] theorem State.markFault_status : (s.markFault).status = s.status := rfl
@[simp] theorem State.markFault_ind : (s.markFault).ind = s.ind := rfl
@[simp] theorem State.markFault_refRate : (s.markFault).refRate = s.refRate := rfl
@[simp] theorem State.markFault_selSeq : (s.markFault).selSeq = s.selSeq := rfl
@[simp] theorem State.markFault_mdioSeq : (s.markFault).mdioSeq = s.mdioSeq := rfl
@[simp] theorem State.markFault_pending : (s.markFault).pending = s.pending := rfl
@[simp] theorem State.markFault_phy : (s.markFault).phy = s.phy := rfl
@[simp] theorem State.markFault_lineFault : (s.markFault).lineFault = true := rfl
@[simp] theorem State.markFault_countdown : (s.markFault).countdown = s.countdown := rfl
@[simp] theorem State.markFault_requests : (s.markFault).requests = s.requests := rfl
@[simp] theorem State.markFault_clkAnswers : (s.markFault).clkAnswers = s.clkAnswers := rfl
@[simp] theorem State.markFault_draws : (s.markFault).draws = s.draws := rfl
@[simp] theorem State.markFault_turns : (s.markFault).turns = s.turns := rfl
@[simp] theorem State.markFault_drawn : (s.markFault).drawn = s.drawn := rfl
@[simp] theorem State.markFault_history : (s.markFault).history = s.history := rfl

/-! ### clearCycle -/

@[simp] theorem State.clearCycle_cfg : (s.clearCycle).cfg = s.cfg := rfl
@[simp] theorem State.clearCycle_level : (s.clearCycle).level = s.level := rfl
@[simp] theorem State.clearCycle_resetDone : (s.clearCycle).resetDone = s.resetDone := rfl
@[simp] theorem State.clearCycle_miictrl0 : (s.clearCycle).miictrl0 = s.miictrl0 := rfl
@[simp] theorem State.clearCycle_miictrl1 : (s.clearCycle).miictrl1 = s.miictrl1 := rfl
@[simp] theorem State.clearCycle_cfgReg : (s.clearCycle).cfgReg = s.cfgReg := rfl
@[simp] theorem State.clearCycle_cmd : (s.clearCycle).cmd = s.cmd := rfl
@[simp] theorem State.clearCycle_addr : (s.clearCycle).addr = s.addr := rfl
@[simp] theorem State.clearCycle_ctrl : (s.clearCycle).ctrl = s.ctrl := rfl
@[simp] theorem State.clearCycle_status : (s.clearCycle).status = s.status := rfl
@[simp] theorem State.clearCycle_ind : (s.clearCycle).ind = s.ind &&& ~~~s.cfg.indBusy := rfl
@[simp] theorem State.clearCycle_refRate : (s.clearCycle).refRate = s.refRate := rfl
@[simp] theorem State.clearCycle_selSeq : (s.clearCycle).selSeq = s.selSeq := rfl
@[simp] theorem State.clearCycle_mdioSeq : (s.clearCycle).mdioSeq = s.mdioSeq := rfl
@[simp] theorem State.clearCycle_pending : (s.clearCycle).pending = none := rfl
@[simp] theorem State.clearCycle_phy : (s.clearCycle).phy = s.phy := rfl
@[simp] theorem State.clearCycle_lineFault : (s.clearCycle).lineFault = s.lineFault := rfl
@[simp] theorem State.clearCycle_countdown : (s.clearCycle).countdown = s.countdown := rfl
@[simp] theorem State.clearCycle_requests : (s.clearCycle).requests = s.requests := rfl
@[simp] theorem State.clearCycle_clkAnswers : (s.clearCycle).clkAnswers = s.clkAnswers := rfl
@[simp] theorem State.clearCycle_draws : (s.clearCycle).draws = s.draws := rfl
@[simp] theorem State.clearCycle_turns : (s.clearCycle).turns = s.turns := rfl
@[simp] theorem State.clearCycle_drawn : (s.clearCycle).drawn = s.drawn := rfl
@[simp] theorem State.clearCycle_history : (s.clearCycle).history = s.history := rfl

/-! ### startCycle -/

@[simp] theorem State.startCycle_cfg (c : Cycle) : (s.startCycle c).cfg = s.cfg := rfl
@[simp] theorem State.startCycle_level (c : Cycle) : (s.startCycle c).level = s.level := rfl
@[simp] theorem State.startCycle_resetDone (c : Cycle) : (s.startCycle c).resetDone = s.resetDone := rfl
@[simp] theorem State.startCycle_miictrl0 (c : Cycle) : (s.startCycle c).miictrl0 = s.miictrl0 := rfl
@[simp] theorem State.startCycle_miictrl1 (c : Cycle) : (s.startCycle c).miictrl1 = s.miictrl1 := rfl
@[simp] theorem State.startCycle_cfgReg (c : Cycle) : (s.startCycle c).cfgReg = s.cfgReg := rfl
@[simp] theorem State.startCycle_cmd (c : Cycle) : (s.startCycle c).cmd = s.cmd := rfl
@[simp] theorem State.startCycle_addr (c : Cycle) : (s.startCycle c).addr = s.addr := rfl
@[simp] theorem State.startCycle_ctrl (c : Cycle) : (s.startCycle c).ctrl = s.ctrl := rfl
@[simp] theorem State.startCycle_status (c : Cycle) : (s.startCycle c).status = s.status := rfl
@[simp] theorem State.startCycle_ind (c : Cycle) : (s.startCycle c).ind = s.ind ||| s.cfg.indBusy := rfl
@[simp] theorem State.startCycle_refRate (c : Cycle) : (s.startCycle c).refRate = s.refRate := rfl
@[simp] theorem State.startCycle_selSeq (c : Cycle) : (s.startCycle c).selSeq = s.selSeq := rfl
@[simp] theorem State.startCycle_mdioSeq (c : Cycle) : (s.startCycle c).mdioSeq = s.mdioSeq := rfl
@[simp] theorem State.startCycle_pending (c : Cycle) : (s.startCycle c).pending = some c := rfl
@[simp] theorem State.startCycle_phy (c : Cycle) : (s.startCycle c).phy = s.phy := rfl
@[simp] theorem State.startCycle_lineFault (c : Cycle) : (s.startCycle c).lineFault = s.lineFault := rfl
@[simp] theorem State.startCycle_requests (c : Cycle) : (s.startCycle c).requests = s.requests := rfl
@[simp] theorem State.startCycle_clkAnswers (c : Cycle) : (s.startCycle c).clkAnswers = s.clkAnswers := rfl
@[simp] theorem State.startCycle_draws (c : Cycle) : (s.startCycle c).draws = s.draws := rfl
@[simp] theorem State.startCycle_turns (c : Cycle) : (s.startCycle c).turns = s.turns := rfl
@[simp] theorem State.startCycle_drawn (c : Cycle) : (s.startCycle c).drawn = s.drawn := rfl
@[simp] theorem State.startCycle_history (c : Cycle) : (s.startCycle c).history = s.history := rfl

/-! ### setReg -/

@[simp] theorem State.setReg_cfg (r : Reg) (v : Word) : (s.setReg r v).cfg = s.cfg := by cases r <;> rfl
@[simp] theorem State.setReg_level (r : Reg) (v : Word) : (s.setReg r v).level = s.level := by cases r <;> rfl
@[simp] theorem State.setReg_resetDone (r : Reg) (v : Word) : (s.setReg r v).resetDone = s.resetDone := by cases r <;> rfl
@[simp] theorem State.setReg_refRate (r : Reg) (v : Word) : (s.setReg r v).refRate = s.refRate := by cases r <;> rfl
@[simp] theorem State.setReg_selSeq (r : Reg) (v : Word) : (s.setReg r v).selSeq = s.selSeq := by cases r <;> rfl
@[simp] theorem State.setReg_mdioSeq (r : Reg) (v : Word) : (s.setReg r v).mdioSeq = s.mdioSeq := by cases r <;> rfl
@[simp] theorem State.setReg_pending (r : Reg) (v : Word) : (s.setReg r v).pending = s.pending := by cases r <;> rfl
@[simp] theorem State.setReg_phy (r : Reg) (v : Word) : (s.setReg r v).phy = s.phy := by cases r <;> rfl
@[simp] theorem State.setReg_lineFault (r : Reg) (v : Word) : (s.setReg r v).lineFault = s.lineFault := by cases r <;> rfl
@[simp] theorem State.setReg_countdown (r : Reg) (v : Word) : (s.setReg r v).countdown = s.countdown := by cases r <;> rfl
@[simp] theorem State.setReg_requests (r : Reg) (v : Word) : (s.setReg r v).requests = s.requests := by cases r <;> rfl
@[simp] theorem State.setReg_clkAnswers (r : Reg) (v : Word) : (s.setReg r v).clkAnswers = s.clkAnswers := by cases r <;> rfl
@[simp] theorem State.setReg_draws (r : Reg) (v : Word) : (s.setReg r v).draws = s.draws := by cases r <;> rfl
@[simp] theorem State.setReg_turns (r : Reg) (v : Word) : (s.setReg r v).turns = s.turns := by cases r <;> rfl
@[simp] theorem State.setReg_drawn (r : Reg) (v : Word) : (s.setReg r v).drawn = s.drawn := by cases r <;> rfl
@[simp] theorem State.setReg_history (r : Reg) (v : Word) : (s.setReg r v).history = s.history := by cases r <;> rfl

@[simp] theorem State.readReg_setReg_self (r : Reg) (v : Word) : (s.setReg r v).readReg r = v := by cases r <;> rfl

theorem State.readReg_setReg_ne (r q : Reg) (v : Word) (h : q ≠ r) : (s.setReg r v).readReg q = s.readReg q := by
  cases r <;> cases q <;> first | rfl | exact absurd rfl h

@[simp] theorem State.readReg_record (r : Reg) (e : Event) : (s.record e).readReg r = s.readReg r := by
  cases r <;> rfl

@[simp] theorem State.setReg_miictrl0_miictrl0 (v : Word) : (s.setReg .miictrl0 v).miictrl0 = v := rfl
@[simp] theorem State.setReg_miictrl0_miictrl1 (v : Word) : (s.setReg .miictrl0 v).miictrl1 = s.miictrl1 := rfl
@[simp] theorem State.setReg_miictrl0_cfgReg (v : Word) : (s.setReg .miictrl0 v).cfgReg = s.cfgReg := rfl
@[simp] theorem State.setReg_miictrl0_cmd (v : Word) : (s.setReg .miictrl0 v).cmd = s.cmd := rfl
@[simp] theorem State.setReg_miictrl0_addr (v : Word) : (s.setReg .miictrl0 v).addr = s.addr := rfl
@[simp] theorem State.setReg_miictrl0_ctrl (v : Word) : (s.setReg .miictrl0 v).ctrl = s.ctrl := rfl
@[simp] theorem State.setReg_miictrl0_status (v : Word) : (s.setReg .miictrl0 v).status = s.status := rfl
@[simp] theorem State.setReg_miictrl0_ind (v : Word) : (s.setReg .miictrl0 v).ind = s.ind := rfl
@[simp] theorem State.setReg_miictrl1_miictrl0 (v : Word) : (s.setReg .miictrl1 v).miictrl0 = s.miictrl0 := rfl
@[simp] theorem State.setReg_miictrl1_miictrl1 (v : Word) : (s.setReg .miictrl1 v).miictrl1 = v := rfl
@[simp] theorem State.setReg_miictrl1_cfgReg (v : Word) : (s.setReg .miictrl1 v).cfgReg = s.cfgReg := rfl
@[simp] theorem State.setReg_miictrl1_cmd (v : Word) : (s.setReg .miictrl1 v).cmd = s.cmd := rfl
@[simp] theorem State.setReg_miictrl1_addr (v : Word) : (s.setReg .miictrl1 v).addr = s.addr := rfl
@[simp] theorem State.setReg_miictrl1_ctrl (v : Word) : (s.setReg .miictrl1 v).ctrl = s.ctrl := rfl
@[simp] theorem State.setReg_miictrl1_status (v : Word) : (s.setReg .miictrl1 v).status = s.status := rfl
@[simp] theorem State.setReg_miictrl1_ind (v : Word) : (s.setReg .miictrl1 v).ind = s.ind := rfl
@[simp] theorem State.setReg_cfg_miictrl0 (v : Word) : (s.setReg .cfg v).miictrl0 = s.miictrl0 := rfl
@[simp] theorem State.setReg_cfg_miictrl1 (v : Word) : (s.setReg .cfg v).miictrl1 = s.miictrl1 := rfl
@[simp] theorem State.setReg_cfg_cfgReg (v : Word) : (s.setReg .cfg v).cfgReg = v := rfl
@[simp] theorem State.setReg_cfg_cmd (v : Word) : (s.setReg .cfg v).cmd = s.cmd := rfl
@[simp] theorem State.setReg_cfg_addr (v : Word) : (s.setReg .cfg v).addr = s.addr := rfl
@[simp] theorem State.setReg_cfg_ctrl (v : Word) : (s.setReg .cfg v).ctrl = s.ctrl := rfl
@[simp] theorem State.setReg_cfg_status (v : Word) : (s.setReg .cfg v).status = s.status := rfl
@[simp] theorem State.setReg_cfg_ind (v : Word) : (s.setReg .cfg v).ind = s.ind := rfl
@[simp] theorem State.setReg_cmd_miictrl0 (v : Word) : (s.setReg .cmd v).miictrl0 = s.miictrl0 := rfl
@[simp] theorem State.setReg_cmd_miictrl1 (v : Word) : (s.setReg .cmd v).miictrl1 = s.miictrl1 := rfl
@[simp] theorem State.setReg_cmd_cfgReg (v : Word) : (s.setReg .cmd v).cfgReg = s.cfgReg := rfl
@[simp] theorem State.setReg_cmd_cmd (v : Word) : (s.setReg .cmd v).cmd = v := rfl
@[simp] theorem State.setReg_cmd_addr (v : Word) : (s.setReg .cmd v).addr = s.addr := rfl
@[simp] theorem State.setReg_cmd_ctrl (v : Word) : (s.setReg .cmd v).ctrl = s.ctrl := rfl
@[simp] theorem State.setReg_cmd_status (v : Word) : (s.setReg .cmd v).status = s.status := rfl
@[simp] theorem State.setReg_cmd_ind (v : Word) : (s.setReg .cmd v).ind = s.ind := rfl
@[simp] theorem State.setReg_addr_miictrl0 (v : Word) : (s.setReg .addr v).miictrl0 = s.miictrl0 := rfl
@[simp] theorem State.setReg_addr_miictrl1 (v : Word) : (s.setReg .addr v).miictrl1 = s.miictrl1 := rfl
@[simp] theorem State.setReg_addr_cfgReg (v : Word) : (s.setReg .addr v).cfgReg = s.cfgReg := rfl
@[simp] theorem State.setReg_addr_cmd (v : Word) : (s.setReg .addr v).cmd = s.cmd := rfl
@[simp] theorem State.setReg_addr_addr (v : Word) : (s.setReg .addr v).addr = v := rfl
@[simp] theorem State.setReg_addr_ctrl (v : Word) : (s.setReg .addr v).ctrl = s.ctrl := rfl
@[simp] theorem State.setReg_addr_status (v : Word) : (s.setReg .addr v).status = s.status := rfl
@[simp] theorem State.setReg_addr_ind (v : Word) : (s.setReg .addr v).ind = s.ind := rfl
@[simp] theorem State.setReg_ctrl_miictrl0 (v : Word) : (s.setReg .ctrl v).miictrl0 = s.miictrl0 := rfl
@[simp] theorem State.setReg_ctrl_miictrl1 (v : Word) : (s.setReg .ctrl v).miictrl1 = s.miictrl1 := rfl
@[simp] theorem State.setReg_ctrl_cfgReg (v : Word) : (s.setReg .ctrl v).cfgReg = s.cfgReg := rfl
@[simp] theorem State.setReg_ctrl_cmd (v : Word) : (s.setReg .ctrl v).cmd = s.cmd := rfl
@[simp] theorem State.setReg_ctrl_addr (v : Word) : (s.setReg .ctrl v).addr = s.addr := rfl
@[simp] theorem State.setReg_ctrl_ctrl (v : Word) : (s.setReg .ctrl v).ctrl = v := rfl
@[simp] theorem State.setReg_ctrl_status (v : Word) : (s.setReg .ctrl v).status = s.status := rfl
@[simp] theorem State.setReg_ctrl_ind (v : Word) : (s.setReg .ctrl v).ind = s.ind := rfl
@[simp] theorem State.setReg_status_miictrl0 (v : Word) : (s.setReg .status v).miictrl0 = s.miictrl0 := rfl
@[simp] theorem State.setReg_status_miictrl1 (v : Word) : (s.setReg .status v).miictrl1 = s.miictrl1 := rfl
@[simp] theorem State.setReg_status_cfgReg (v : Word) : (s.setReg .status v).cfgReg = s.cfgReg := rfl
@[simp] theorem State.setReg_status_cmd (v : Word) : (s.setReg .status v).cmd = s.cmd := rfl
@[simp] theorem State.setReg_status_addr (v : Word) : (s.setReg .status v).addr = s.addr := rfl
@[simp] theorem State.setReg_status_ctrl (v : Word) : (s.setReg .status v).ctrl = s.ctrl := rfl
@[simp] theorem State.setReg_status_status (v : Word) : (s.setReg .status v).status = v := rfl
@[simp] theorem State.setReg_status_ind (v : Word) : (s.setReg .status v).ind = s.ind := rfl
@[simp] theorem State.setReg_ind_miictrl0 (v : Word) : (s.setReg .ind v).miictrl0 = s.miictrl0 := rfl
@[simp] theorem State.setReg_ind_miictrl1 (v : Word) : (s.setReg .ind v).miictrl1 = s.miictrl1 := rfl
@[simp] theorem State.setReg_ind_cfgReg (v : Word) : (s.setReg .ind v).cfgReg = s.cfgReg := rfl
@[simp] theorem State.setReg_ind_cmd (v : Word) : (s.setReg .ind v).cmd = s.cmd := rfl
@[simp] theorem State.setReg_ind_addr (v : Word) : (s.setReg .ind v).addr = s.addr := rfl
@[simp] theorem State.setReg_ind_ctrl (v : Word) : (s.setReg .ind v).ctrl = s.ctrl := rfl
@[simp] theorem State.setReg_ind_status (v : Word) : (s.setReg .ind v).status = s.status := rfl
@[simp] theorem State.setReg_ind_ind (v : Word) : (s.setReg .ind v).ind = v := rfl

/-! ### drawWord -/

@[simp] theorem State.drawWord_cfg : (s.drawWord.2).cfg = s.cfg := by
  unfold State.drawWord; split <;> rfl
@[simp] theorem State.drawWord_level : (s.drawWord.2).level = s.level := by
  unfold State.drawWord; split <;> rfl
@[simp] theorem State.drawWord_resetDone : (s.drawWord.2).resetDone = s.resetDone := by
  unfold State.drawWord; split <;> rfl
@[simp] theorem State.drawWord_miictrl0 : (s.drawWord.2).miictrl0 = s.miictrl0 := by
  unfold State.drawWord; split <;> rfl
@[simp] theorem State.drawWord_miictrl1 : (s.drawWord.2).miictrl1 = s.miictrl1 := by
  unfold State.drawWord; split <;> rfl
@[simp] theorem State.drawWord_cfgReg : (s.drawWord.2).cfgReg = s.cfgReg := by
  unfold State.drawWord; split <;> rfl
@[simp] theorem State.drawWord_cmd : (s.drawWord.2).cmd = s.cmd := by
  unfold State.drawWord; split <;> rfl
@[simp] theorem State.drawWord_addr : (s.drawWord.2).addr = s.addr := by
  unfold State.drawWord; split <;> rfl
@[simp] theorem State.drawWord_ctrl : (s.drawWord.2).ctrl = s.ctrl := by
  unfold State.drawWord; split <;> rfl
@[simp] theorem State.drawWord_status : (s.drawWord.2).status = s.status := by
  unfold State.drawWord; split <;> rfl
@[simp] theorem State.drawWord_ind : (s.drawWord.2).ind = s.ind := by
  unfold State.drawWord; split <;> rfl
@[simp] theorem State.drawWord_refRate : (s.drawWord.2).refRate = s.refRate := by
  unfold State.drawWord; split <;> rfl
@[simp] theorem State.drawWord_selSeq : (s.drawWord.2).selSeq = s.selSeq := by
  unfold State.drawWord; split <;> rfl
@[simp] theorem State.drawWord_mdioSeq : (s.drawWord.2).mdioSeq = s.mdioSeq := by
  unfold State.drawWord; split <;> rfl
@[simp] theorem State.drawWord_pending : (s.drawWord.2).pending = s.pending := by
  unfold State.drawWord; split <;> rfl
@[simp] theorem State.drawWord_phy : (s.drawWord.2).phy = s.phy := by
  unfold State.drawWord; split <;> rfl
@[simp] theorem State.drawWord_lineFault : (s.drawWord.2).lineFault = s.lineFault := by
  unfold State.drawWord; split <;> rfl
@[simp] theorem State.drawWord_countdown : (s.drawWord.2).countdown = s.countdown := by
  unfold State.drawWord; split <;> rfl
@[simp] theorem State.drawWord_requests : (s.drawWord.2).requests = s.requests := by
  unfold State.drawWord; split <;> rfl
@[simp] theorem State.drawWord_clkAnswers : (s.drawWord.2).clkAnswers = s.clkAnswers := by
  unfold State.drawWord; split <;> rfl
@[simp] theorem State.drawWord_turns : (s.drawWord.2).turns = s.turns := by
  unfold State.drawWord; split <;> rfl
@[simp] theorem State.drawWord_history : (s.drawWord.2).history = s.history := by
  unfold State.drawWord; split <;> rfl

/-! ### drawTurn -/

@[simp] theorem State.drawTurn_cfg : (s.drawTurn.2).cfg = s.cfg := by
  unfold State.drawTurn; split <;> rfl
@[simp] theorem State.drawTurn_level : (s.drawTurn.2).level = s.level := by
  unfold State.drawTurn; split <;> rfl
@[simp] theorem State.drawTurn_resetDone : (s.drawTurn.2).resetDone = s.resetDone := by
  unfold State.drawTurn; split <;> rfl
@[simp] theorem State.drawTurn_miictrl0 : (s.drawTurn.2).miictrl0 = s.miictrl0 := by
  unfold State.drawTurn; split <;> rfl
@[simp] theorem State.drawTurn_miictrl1 : (s.drawTurn.2).miictrl1 = s.miictrl1 := by
  unfold State.drawTurn; split <;> rfl
@[simp] theorem State.drawTurn_cfgReg : (s.drawTurn.2).cfgReg = s.cfgReg := by
  unfold State.drawTurn; split <;> rfl
@[simp] theorem State.drawTurn_cmd : (s.drawTurn.2).cmd = s.cmd := by
  unfold State.drawTurn; split <;> rfl
@[simp] theorem State.drawTurn_addr : (s.drawTurn.2).addr = s.addr := by
  unfold State.drawTurn; split <;> rfl
@[simp] theorem State.drawTurn_ctrl : (s.drawTurn.2).ctrl = s.ctrl := by
  unfold State.drawTurn; split <;> rfl
@[simp] theorem State.drawTurn_status : (s.drawTurn.2).status = s.status := by
  unfold State.drawTurn; split <;> rfl
@[simp] theorem State.drawTurn_ind : (s.drawTurn.2).ind = s.ind := by
  unfold State.drawTurn; split <;> rfl
@[simp] theorem State.drawTurn_refRate : (s.drawTurn.2).refRate = s.refRate := by
  unfold State.drawTurn; split <;> rfl
@[simp] theorem State.drawTurn_selSeq : (s.drawTurn.2).selSeq = s.selSeq := by
  unfold State.drawTurn; split <;> rfl
@[simp] theorem State.drawTurn_mdioSeq : (s.drawTurn.2).mdioSeq = s.mdioSeq := by
  unfold State.drawTurn; split <;> rfl
@[simp] theorem State.drawTurn_pending : (s.drawTurn.2).pending = s.pending := by
  unfold State.drawTurn; split <;> rfl
@[simp] theorem State.drawTurn_phy : (s.drawTurn.2).phy = s.phy := by
  unfold State.drawTurn; split <;> rfl
@[simp] theorem State.drawTurn_lineFault : (s.drawTurn.2).lineFault = s.lineFault := by
  unfold State.drawTurn; split <;> rfl
@[simp] theorem State.drawTurn_countdown : (s.drawTurn.2).countdown = s.countdown := by
  unfold State.drawTurn; split <;> rfl
@[simp] theorem State.drawTurn_requests : (s.drawTurn.2).requests = s.requests := by
  unfold State.drawTurn; split <;> rfl
@[simp] theorem State.drawTurn_clkAnswers : (s.drawTurn.2).clkAnswers = s.clkAnswers := by
  unfold State.drawTurn; split <;> rfl
@[simp] theorem State.drawTurn_draws : (s.drawTurn.2).draws = s.draws := by
  unfold State.drawTurn; split <;> rfl
@[simp] theorem State.drawTurn_history : (s.drawTurn.2).history = s.history := by
  unfold State.drawTurn; split <;> rfl

/-! ### drawClk -/

@[simp] theorem State.drawClk_cfg : (s.drawClk.2).cfg = s.cfg := by
  unfold State.drawClk; split <;> rfl
@[simp] theorem State.drawClk_level : (s.drawClk.2).level = s.level := by
  unfold State.drawClk; split <;> rfl
@[simp] theorem State.drawClk_resetDone : (s.drawClk.2).resetDone = s.resetDone := by
  unfold State.drawClk; split <;> rfl
@[simp] theorem State.drawClk_miictrl0 : (s.drawClk.2).miictrl0 = s.miictrl0 := by
  unfold State.drawClk; split <;> rfl
@[simp] theorem State.drawClk_miictrl1 : (s.drawClk.2).miictrl1 = s.miictrl1 := by
  unfold State.drawClk; split <;> rfl
@[simp] theorem State.drawClk_cfgReg : (s.drawClk.2).cfgReg = s.cfgReg := by
  unfold State.drawClk; split <;> rfl
@[simp] theorem State.drawClk_cmd : (s.drawClk.2).cmd = s.cmd := by
  unfold State.drawClk; split <;> rfl
@[simp] theorem State.drawClk_addr : (s.drawClk.2).addr = s.addr := by
  unfold State.drawClk; split <;> rfl
@[simp] theorem State.drawClk_ctrl : (s.drawClk.2).ctrl = s.ctrl := by
  unfold State.drawClk; split <;> rfl
@[simp] theorem State.drawClk_status : (s.drawClk.2).status = s.status := by
  unfold State.drawClk; split <;> rfl
@[simp] theorem State.drawClk_ind : (s.drawClk.2).ind = s.ind := by
  unfold State.drawClk; split <;> rfl
@[simp] theorem State.drawClk_refRate : (s.drawClk.2).refRate = s.refRate := by
  unfold State.drawClk; split <;> rfl
@[simp] theorem State.drawClk_selSeq : (s.drawClk.2).selSeq = s.selSeq := by
  unfold State.drawClk; split <;> rfl
@[simp] theorem State.drawClk_mdioSeq : (s.drawClk.2).mdioSeq = s.mdioSeq := by
  unfold State.drawClk; split <;> rfl
@[simp] theorem State.drawClk_pending : (s.drawClk.2).pending = s.pending := by
  unfold State.drawClk; split <;> rfl
@[simp] theorem State.drawClk_phy : (s.drawClk.2).phy = s.phy := by
  unfold State.drawClk; split <;> rfl
@[simp] theorem State.drawClk_lineFault : (s.drawClk.2).lineFault = s.lineFault := by
  unfold State.drawClk; split <;> rfl
@[simp] theorem State.drawClk_countdown : (s.drawClk.2).countdown = s.countdown := by
  unfold State.drawClk; split <;> rfl
@[simp] theorem State.drawClk_requests : (s.drawClk.2).requests = s.requests := by
  unfold State.drawClk; split <;> rfl
@[simp] theorem State.drawClk_draws : (s.drawClk.2).draws = s.draws := by
  unfold State.drawClk; split <;> rfl
@[simp] theorem State.drawClk_turns : (s.drawClk.2).turns = s.turns := by
  unfold State.drawClk; split <;> rfl
@[simp] theorem State.drawClk_history : (s.drawClk.2).history = s.history := by
  unfold State.drawClk; split <;> rfl

/-! ### withRequest -/

@[simp] theorem State.withRequest_cfg (w : RequestWord) : (s.withRequest w).cfg = s.cfg := rfl
@[simp] theorem State.withRequest_level (w : RequestWord) : (s.withRequest w).level = s.level := rfl
@[simp] theorem State.withRequest_resetDone (w : RequestWord) : (s.withRequest w).resetDone = s.resetDone := rfl
@[simp] theorem State.withRequest_miictrl0 (w : RequestWord) : (s.withRequest w).miictrl0 = s.miictrl0 := rfl
@[simp] theorem State.withRequest_miictrl1 (w : RequestWord) : (s.withRequest w).miictrl1 = s.miictrl1 := rfl
@[simp] theorem State.withRequest_cfgReg (w : RequestWord) : (s.withRequest w).cfgReg = s.cfgReg := rfl
@[simp] theorem State.withRequest_cmd (w : RequestWord) : (s.withRequest w).cmd = s.cmd := rfl
@[simp] theorem State.withRequest_addr (w : RequestWord) : (s.withRequest w).addr = s.addr := rfl
@[simp] theorem State.withRequest_ctrl (w : RequestWord) : (s.withRequest w).ctrl = s.ctrl := rfl
@[simp] theorem State.withRequest_status (w : RequestWord) : (s.withRequest w).status = s.status := rfl
@[simp] theorem State.withRequest_ind (w : RequestWord) : (s.withRequest w).ind = s.ind := rfl
@[simp] theorem State.withRequest_refRate (w : RequestWord) : (s.withRequest w).refRate = s.refRate := rfl
@[simp] theorem State.withRequest_selSeq (w : RequestWord) : (s.withRequest w).selSeq = .idle := rfl
@[simp] theorem State.withRequest_mdioSeq (w : RequestWord) : (s.withRequest w).mdioSeq = .idle := rfl
@[simp] theorem State.withRequest_pending (w : RequestWord) : (s.withRequest w).pending = s.pending := rfl
@[simp] theorem State.withRequest_phy (w : RequestWord) : (s.withRequest w).phy = s.phy := rfl
@[simp] theorem State.withRequest_lineFault (w : RequestWord) : (s.withRequest w).lineFault = s.lineFault := rfl
@[simp] theorem State.withRequest_countdown (w : RequestWord) : (s.withRequest w).countdown = s.countdown := rfl
@[simp] theorem State.withRequest_requests (w : RequestWord) : (s.withRequest w).requests = ⟨w, none⟩ :: s.requests := rfl
@[simp] theorem State.withRequest_clkAnswers (w : RequestWord) : (s.withRequest w).clkAnswers = s.clkAnswers := rfl
@[simp] theorem State.withRequest_draws (w : RequestWord) : (s.withRequest w).draws = s.draws := rfl
@[simp] theorem State.withRequest_turns (w : RequestWord) : (s.withRequest w).turns = s.turns := rfl
@[simp] theorem State.withRequest_drawn (w : RequestWord) : (s.withRequest w).drawn = s.drawn := rfl
@[simp] theorem State.withRequest_history (w : RequestWord) : (s.withRequest w).history = s.history := rfl

end Sys2Proof.Machine
end

