-- ==== Sys2Proof/Laws/Line.lean ====
section
/-! SUPPORT. What the line side leaves unchanged, field by field, and what one completion, one store and one load do to
it (42_mdio_device_side.md). -/

namespace Sys2Proof.Machine

variable (s : State)


/-! ### completeCycle leaves alone -/

@[simp] theorem State.completeCycle_cfg : (s.completeCycle).cfg = s.cfg := by
  unfold State.completeCycle; split <;> rfl
@[simp] theorem State.completeCycle_level : (s.completeCycle).level = s.level := by
  unfold State.completeCycle; split <;> rfl
@[simp] theorem State.completeCycle_resetDone : (s.completeCycle).resetDone = s.resetDone := by
  unfold State.completeCycle; split <;> rfl
@[simp] theorem State.completeCycle_miictrl0 : (s.completeCycle).miictrl0 = s.miictrl0 := by
  unfold State.completeCycle; split <;> rfl
@[simp] theorem State.completeCycle_miictrl1 : (s.completeCycle).miictrl1 = s.miictrl1 := by
  unfold State.completeCycle; split <;> rfl
@[simp] theorem State.completeCycle_cfgReg : (s.completeCycle).cfgReg = s.cfgReg := by
  unfold State.completeCycle; split <;> rfl
@[simp] theorem State.completeCycle_cmd : (s.completeCycle).cmd = s.cmd := by
  unfold State.completeCycle; split <;> rfl
@[simp] theorem State.completeCycle_addr : (s.completeCycle).addr = s.addr := by
  unfold State.completeCycle; split <;> rfl
@[simp] theorem State.completeCycle_ctrl : (s.completeCycle).ctrl = s.ctrl := by
  unfold State.completeCycle; split <;> rfl
@[simp] theorem State.completeCycle_refRate : (s.completeCycle).refRate = s.refRate := by
  unfold State.completeCycle; split <;> rfl
@[simp] theorem State.completeCycle_selSeq : (s.completeCycle).selSeq = s.selSeq := by
  unfold State.completeCycle; split <;> rfl
@[simp] theorem State.completeCycle_mdioSeq : (s.completeCycle).mdioSeq = s.mdioSeq := by
  unfold State.completeCycle; split <;> rfl
@[simp] theorem State.completeCycle_lineFault : (s.completeCycle).lineFault = s.lineFault := by
  unfold State.completeCycle; split <;> rfl
@[simp] theorem State.completeCycle_countdown : (s.completeCycle).countdown = s.countdown := by
  unfold State.completeCycle; split <;> rfl
@[simp] theorem State.completeCycle_requests : (s.completeCycle).requests = s.requests := by
  unfold State.completeCycle; split <;> rfl
@[simp] theorem State.completeCycle_clkAnswers : (s.completeCycle).clkAnswers = s.clkAnswers := by
  unfold State.completeCycle; split <;> rfl
@[simp] theorem State.completeCycle_draws : (s.completeCycle).draws = s.draws := by
  unfold State.completeCycle; split <;> rfl
@[simp] theorem State.completeCycle_turns : (s.completeCycle).turns = s.turns := by
  unfold State.completeCycle; split <;> rfl
@[simp] theorem State.completeCycle_drawn : (s.completeCycle).drawn = s.drawn := by
  unfold State.completeCycle; split <;> rfl
@[simp] theorem State.completeCycle_history : (s.completeCycle).history = s.history := by
  unfold State.completeCycle; split <;> rfl

/-! ### simPoll leaves alone -/

@[simp] theorem State.simPoll_cfg : (s.simPoll).cfg = s.cfg := by
  unfold State.simPoll; repeat' split
  all_goals simp
@[simp] theorem State.simPoll_level : (s.simPoll).level = s.level := by
  unfold State.simPoll; repeat' split
  all_goals simp
@[simp] theorem State.simPoll_resetDone : (s.simPoll).resetDone = s.resetDone := by
  unfold State.simPoll; repeat' split
  all_goals simp
@[simp] theorem State.simPoll_miictrl0 : (s.simPoll).miictrl0 = s.miictrl0 := by
  unfold State.simPoll; repeat' split
  all_goals simp
@[simp] theorem State.simPoll_miictrl1 : (s.simPoll).miictrl1 = s.miictrl1 := by
  unfold State.simPoll; repeat' split
  all_goals simp
@[simp] theorem State.simPoll_cfgReg : (s.simPoll).cfgReg = s.cfgReg := by
  unfold State.simPoll; repeat' split
  all_goals simp
@[simp] theorem State.simPoll_cmd : (s.simPoll).cmd = s.cmd := by
  unfold State.simPoll; repeat' split
  all_goals simp
@[simp] theorem State.simPoll_addr : (s.simPoll).addr = s.addr := by
  unfold State.simPoll; repeat' split
  all_goals simp
@[simp] theorem State.simPoll_ctrl : (s.simPoll).ctrl = s.ctrl := by
  unfold State.simPoll; repeat' split
  all_goals simp
@[simp] theorem State.simPoll_refRate : (s.simPoll).refRate = s.refRate := by
  unfold State.simPoll; repeat' split
  all_goals simp
@[simp] theorem State.simPoll_selSeq : (s.simPoll).selSeq = s.selSeq := by
  unfold State.simPoll; repeat' split
  all_goals simp
@[simp] theorem State.simPoll_mdioSeq : (s.simPoll).mdioSeq = s.mdioSeq := by
  unfold State.simPoll; repeat' split
  all_goals simp
@[simp] theorem State.simPoll_lineFault : (s.simPoll).lineFault = s.lineFault := by
  unfold State.simPoll; repeat' split
  all_goals simp
@[simp] theorem State.simPoll_requests : (s.simPoll).requests = s.requests := by
  unfold State.simPoll; repeat' split
  all_goals simp
@[simp] theorem State.simPoll_clkAnswers : (s.simPoll).clkAnswers = s.clkAnswers := by
  unfold State.simPoll; repeat' split
  all_goals simp
@[simp] theorem State.simPoll_draws : (s.simPoll).draws = s.draws := by
  unfold State.simPoll; repeat' split
  all_goals simp
@[simp] theorem State.simPoll_turns : (s.simPoll).turns = s.turns := by
  unfold State.simPoll; repeat' split
  all_goals simp
@[simp] theorem State.simPoll_drawn : (s.simPoll).drawn = s.drawn := by
  unfold State.simPoll; repeat' split
  all_goals simp
@[simp] theorem State.simPoll_history : (s.simPoll).history = s.history := by
  unfold State.simPoll; repeat' split
  all_goals simp

/-! ### indTick leaves alone -/

@[simp] theorem State.indTick_cfg : (s.indTick).cfg = s.cfg := by
  unfold State.indTick; split <;> simp
@[simp] theorem State.indTick_level : (s.indTick).level = s.level := by
  unfold State.indTick; split <;> simp
@[simp] theorem State.indTick_miictrl0 : (s.indTick).miictrl0 = s.miictrl0 := by
  unfold State.indTick; split <;> simp
@[simp] theorem State.indTick_miictrl1 : (s.indTick).miictrl1 = s.miictrl1 := by
  unfold State.indTick; split <;> simp
@[simp] theorem State.indTick_cfgReg : (s.indTick).cfgReg = s.cfgReg := by
  unfold State.indTick; split <;> simp
@[simp] theorem State.indTick_cmd : (s.indTick).cmd = s.cmd := by
  unfold State.indTick; split <;> simp
@[simp] theorem State.indTick_addr : (s.indTick).addr = s.addr := by
  unfold State.indTick; split <;> simp
@[simp] theorem State.indTick_ctrl : (s.indTick).ctrl = s.ctrl := by
  unfold State.indTick; split <;> simp
@[simp] theorem State.indTick_refRate : (s.indTick).refRate = s.refRate := by
  unfold State.indTick; split <;> simp
@[simp] theorem State.indTick_selSeq : (s.indTick).selSeq = s.selSeq := by
  unfold State.indTick; split <;> simp
@[simp] theorem State.indTick_mdioSeq : (s.indTick).mdioSeq = s.mdioSeq := by
  unfold State.indTick; split <;> simp
@[simp] theorem State.indTick_resetDone : (s.indTick).resetDone = s.resetDone := by
  unfold State.indTick; split <;> simp
@[simp] theorem State.indTick_lineFault : (s.indTick).lineFault = s.lineFault := by
  unfold State.indTick; split <;> simp
@[simp] theorem State.indTick_requests : (s.indTick).requests = s.requests := by
  unfold State.indTick; split <;> simp
@[simp] theorem State.indTick_clkAnswers : (s.indTick).clkAnswers = s.clkAnswers := by
  unfold State.indTick; split <;> simp
@[simp] theorem State.indTick_draws : (s.indTick).draws = s.draws := by
  unfold State.indTick; split <;> simp
@[simp] theorem State.indTick_turns : (s.indTick).turns = s.turns := by
  unfold State.indTick; split <;> simp
@[simp] theorem State.indTick_drawn : (s.indTick).drawn = s.drawn := by
  unfold State.indTick; split <;> simp
@[simp] theorem State.indTick_history : (s.indTick).history = s.history := by
  unfold State.indTick; split <;> simp

/-! ### driveInd leaves alone -/

@[simp] theorem State.driveInd_cfg : (s.driveInd).cfg = s.cfg := by
  unfold State.driveInd; split <;> simp
@[simp] theorem State.driveInd_level : (s.driveInd).level = s.level := by
  unfold State.driveInd; split <;> simp
@[simp] theorem State.driveInd_resetDone : (s.driveInd).resetDone = s.resetDone := by
  unfold State.driveInd; split <;> simp
@[simp] theorem State.driveInd_miictrl0 : (s.driveInd).miictrl0 = s.miictrl0 := by
  unfold State.driveInd; split <;> simp
@[simp] theorem State.driveInd_miictrl1 : (s.driveInd).miictrl1 = s.miictrl1 := by
  unfold State.driveInd; split <;> simp
@[simp] theorem State.driveInd_cfgReg : (s.driveInd).cfgReg = s.cfgReg := by
  unfold State.driveInd; split <;> simp
@[simp] theorem State.driveInd_cmd : (s.driveInd).cmd = s.cmd := by
  unfold State.driveInd; split <;> simp
@[simp] theorem State.driveInd_addr : (s.driveInd).addr = s.addr := by
  unfold State.driveInd; split <;> simp
@[simp] theorem State.driveInd_ctrl : (s.driveInd).ctrl = s.ctrl := by
  unfold State.driveInd; split <;> simp
@[simp] theorem State.driveInd_refRate : (s.driveInd).refRate = s.refRate := by
  unfold State.driveInd; split <;> simp
@[simp] theorem State.driveInd_selSeq : (s.driveInd).selSeq = s.selSeq := by
  unfold State.driveInd; split <;> simp
@[simp] theorem State.driveInd_mdioSeq : (s.driveInd).mdioSeq = s.mdioSeq := by
  unfold State.driveInd; split <;> simp
@[simp] theorem State.driveInd_lineFault : (s.driveInd).lineFault = s.lineFault := by
  unfold State.driveInd; split <;> simp
@[simp] theorem State.driveInd_requests : (s.driveInd).requests = s.requests := by
  unfold State.driveInd; split <;> simp
@[simp] theorem State.driveInd_clkAnswers : (s.driveInd).clkAnswers = s.clkAnswers := by
  unfold State.driveInd; split <;> simp
@[simp] theorem State.driveInd_turns : (s.driveInd).turns = s.turns := by
  unfold State.driveInd; split <;> simp
@[simp] theorem State.driveInd_history : (s.driveInd).history = s.history := by
  unfold State.driveInd; split <;> simp

/-! ### driveStatus leaves alone -/

@[simp] theorem State.driveStatus_cfg : (s.driveStatus).cfg = s.cfg := by
  unfold State.driveStatus; split <;> simp
@[simp] theorem State.driveStatus_level : (s.driveStatus).level = s.level := by
  unfold State.driveStatus; split <;> simp
@[simp] theorem State.driveStatus_resetDone : (s.driveStatus).resetDone = s.resetDone := by
  unfold State.driveStatus; split <;> simp
@[simp] theorem State.driveStatus_miictrl0 : (s.driveStatus).miictrl0 = s.miictrl0 := by
  unfold State.driveStatus; split <;> simp
@[simp] theorem State.driveStatus_miictrl1 : (s.driveStatus).miictrl1 = s.miictrl1 := by
  unfold State.driveStatus; split <;> simp
@[simp] theorem State.driveStatus_cfgReg : (s.driveStatus).cfgReg = s.cfgReg := by
  unfold State.driveStatus; split <;> simp
@[simp] theorem State.driveStatus_cmd : (s.driveStatus).cmd = s.cmd := by
  unfold State.driveStatus; split <;> simp
@[simp] theorem State.driveStatus_addr : (s.driveStatus).addr = s.addr := by
  unfold State.driveStatus; split <;> simp
@[simp] theorem State.driveStatus_ctrl : (s.driveStatus).ctrl = s.ctrl := by
  unfold State.driveStatus; split <;> simp
@[simp] theorem State.driveStatus_ind : (s.driveStatus).ind = s.ind := by
  unfold State.driveStatus; split <;> simp
@[simp] theorem State.driveStatus_refRate : (s.driveStatus).refRate = s.refRate := by
  unfold State.driveStatus; split <;> simp
@[simp] theorem State.driveStatus_selSeq : (s.driveStatus).selSeq = s.selSeq := by
  unfold State.driveStatus; split <;> simp
@[simp] theorem State.driveStatus_mdioSeq : (s.driveStatus).mdioSeq = s.mdioSeq := by
  unfold State.driveStatus; split <;> simp
@[simp] theorem State.driveStatus_pending : (s.driveStatus).pending = s.pending := by
  unfold State.driveStatus; split <;> simp
@[simp] theorem State.driveStatus_phy : (s.driveStatus).phy = s.phy := by
  unfold State.driveStatus; split <;> simp
@[simp] theorem State.driveStatus_lineFault : (s.driveStatus).lineFault = s.lineFault := by
  unfold State.driveStatus; split <;> simp
@[simp] theorem State.driveStatus_countdown : (s.driveStatus).countdown = s.countdown := by
  unfold State.driveStatus; split <;> simp
@[simp] theorem State.driveStatus_requests : (s.driveStatus).requests = s.requests := by
  unfold State.driveStatus; split <;> simp
@[simp] theorem State.driveStatus_clkAnswers : (s.driveStatus).clkAnswers = s.clkAnswers := by
  unfold State.driveStatus; split <;> simp
@[simp] theorem State.driveStatus_turns : (s.driveStatus).turns = s.turns := by
  unfold State.driveStatus; split <;> simp
@[simp] theorem State.driveStatus_history : (s.driveStatus).history = s.history := by
  unfold State.driveStatus; split <;> simp

/-! ### lineDrive leaves alone -/

@[simp] theorem State.lineDrive_cfg (r : Reg) : (s.lineDrive r).cfg = s.cfg := by
  cases r <;> simp [State.lineDrive]
@[simp] theorem State.lineDrive_level (r : Reg) : (s.lineDrive r).level = s.level := by
  cases r <;> simp [State.lineDrive]
@[simp] theorem State.lineDrive_resetDone (r : Reg) : (s.lineDrive r).resetDone = s.resetDone := by
  cases r <;> simp [State.lineDrive]
@[simp] theorem State.lineDrive_miictrl0 (r : Reg) : (s.lineDrive r).miictrl0 = s.miictrl0 := by
  cases r <;> simp [State.lineDrive]
@[simp] theorem State.lineDrive_miictrl1 (r : Reg) : (s.lineDrive r).miictrl1 = s.miictrl1 := by
  cases r <;> simp [State.lineDrive]
@[simp] theorem State.lineDrive_cfgReg (r : Reg) : (s.lineDrive r).cfgReg = s.cfgReg := by
  cases r <;> simp [State.lineDrive]
@[simp] theorem State.lineDrive_cmd (r : Reg) : (s.lineDrive r).cmd = s.cmd := by
  cases r <;> simp [State.lineDrive]
@[simp] theorem State.lineDrive_addr (r : Reg) : (s.lineDrive r).addr = s.addr := by
  cases r <;> simp [State.lineDrive]
@[simp] theorem State.lineDrive_ctrl (r : Reg) : (s.lineDrive r).ctrl = s.ctrl := by
  cases r <;> simp [State.lineDrive]
@[simp] theorem State.lineDrive_refRate (r : Reg) : (s.lineDrive r).refRate = s.refRate := by
  cases r <;> simp [State.lineDrive]
@[simp] theorem State.lineDrive_selSeq (r : Reg) : (s.lineDrive r).selSeq = s.selSeq := by
  cases r <;> simp [State.lineDrive]
@[simp] theorem State.lineDrive_mdioSeq (r : Reg) : (s.lineDrive r).mdioSeq = s.mdioSeq := by
  cases r <;> simp [State.lineDrive]
@[simp] theorem State.lineDrive_lineFault (r : Reg) : (s.lineDrive r).lineFault = s.lineFault := by
  cases r <;> simp [State.lineDrive]
@[simp] theorem State.lineDrive_requests (r : Reg) : (s.lineDrive r).requests = s.requests := by
  cases r <;> simp [State.lineDrive]
@[simp] theorem State.lineDrive_clkAnswers (r : Reg) : (s.lineDrive r).clkAnswers = s.clkAnswers := by
  cases r <;> simp [State.lineDrive]
@[simp] theorem State.lineDrive_turns (r : Reg) : (s.lineDrive r).turns = s.turns := by
  cases r <;> simp [State.lineDrive]
@[simp] theorem State.lineDrive_history (r : Reg) : (s.lineDrive r).history = s.history := by
  cases r <;> simp [State.lineDrive]

/-! ### lineLoad leaves alone -/

@[simp] theorem State.lineLoad_cfg (r : Reg) : (s.lineLoad r).2.cfg = s.cfg := by
  unfold State.lineLoad; split
  · cases r <;> simp
  · simp
@[simp] theorem State.lineLoad_level (r : Reg) : (s.lineLoad r).2.level = s.level := by
  unfold State.lineLoad; split
  · cases r <;> simp
  · simp
@[simp] theorem State.lineLoad_miictrl0 (r : Reg) : (s.lineLoad r).2.miictrl0 = s.miictrl0 := by
  unfold State.lineLoad; split
  · cases r <;> simp
  · simp
@[simp] theorem State.lineLoad_miictrl1 (r : Reg) : (s.lineLoad r).2.miictrl1 = s.miictrl1 := by
  unfold State.lineLoad; split
  · cases r <;> simp
  · simp
@[simp] theorem State.lineLoad_cfgReg (r : Reg) : (s.lineLoad r).2.cfgReg = s.cfgReg := by
  unfold State.lineLoad; split
  · cases r <;> simp
  · simp
@[simp] theorem State.lineLoad_cmd (r : Reg) : (s.lineLoad r).2.cmd = s.cmd := by
  unfold State.lineLoad; split
  · cases r <;> simp
  · simp
@[simp] theorem State.lineLoad_addr (r : Reg) : (s.lineLoad r).2.addr = s.addr := by
  unfold State.lineLoad; split
  · cases r <;> simp
  · simp
@[simp] theorem State.lineLoad_ctrl (r : Reg) : (s.lineLoad r).2.ctrl = s.ctrl := by
  unfold State.lineLoad; split
  · cases r <;> simp
  · simp
@[simp] theorem State.lineLoad_refRate (r : Reg) : (s.lineLoad r).2.refRate = s.refRate := by
  unfold State.lineLoad; split
  · cases r <;> simp
  · simp
@[simp] theorem State.lineLoad_selSeq (r : Reg) : (s.lineLoad r).2.selSeq = s.selSeq := by
  unfold State.lineLoad; split
  · cases r <;> simp
  · simp
@[simp] theorem State.lineLoad_mdioSeq (r : Reg) : (s.lineLoad r).2.mdioSeq = s.mdioSeq := by
  unfold State.lineLoad; split
  · cases r <;> simp
  · simp
@[simp] theorem State.lineLoad_resetDone (r : Reg) : (s.lineLoad r).2.resetDone = s.resetDone := by
  unfold State.lineLoad; split
  · cases r <;> simp
  · simp
@[simp] theorem State.lineLoad_lineFault (r : Reg) : (s.lineLoad r).2.lineFault = s.lineFault := by
  unfold State.lineLoad; split
  · cases r <;> simp
  · simp
@[simp] theorem State.lineLoad_requests (r : Reg) : (s.lineLoad r).2.requests = s.requests := by
  unfold State.lineLoad; split
  · cases r <;> simp
  · simp
@[simp] theorem State.lineLoad_clkAnswers (r : Reg) : (s.lineLoad r).2.clkAnswers = s.clkAnswers := by
  unfold State.lineLoad; split
  · cases r <;> simp
  · simp
@[simp] theorem State.lineLoad_turns (r : Reg) : (s.lineLoad r).2.turns = s.turns := by
  unfold State.lineLoad; split
  · cases r <;> simp
  · simp
@[simp] theorem State.lineLoad_history (r : Reg) : (s.lineLoad r).2.history = s.history := by
  unfold State.lineLoad; split
  · cases r <;> simp
  · simp

/-! ### trigger leaves alone -/

@[simp] theorem State.trigger_cfg (c : Cycle) : (s.trigger c).cfg = s.cfg := by
  unfold State.trigger; repeat' split
  all_goals simp
@[simp] theorem State.trigger_level (c : Cycle) : (s.trigger c).level = s.level := by
  unfold State.trigger; repeat' split
  all_goals simp
@[simp] theorem State.trigger_miictrl0 (c : Cycle) : (s.trigger c).miictrl0 = s.miictrl0 := by
  unfold State.trigger; repeat' split
  all_goals simp
@[simp] theorem State.trigger_miictrl1 (c : Cycle) : (s.trigger c).miictrl1 = s.miictrl1 := by
  unfold State.trigger; repeat' split
  all_goals simp
@[simp] theorem State.trigger_cfgReg (c : Cycle) : (s.trigger c).cfgReg = s.cfgReg := by
  unfold State.trigger; repeat' split
  all_goals simp
@[simp] theorem State.trigger_cmd (c : Cycle) : (s.trigger c).cmd = s.cmd := by
  unfold State.trigger; repeat' split
  all_goals simp
@[simp] theorem State.trigger_addr (c : Cycle) : (s.trigger c).addr = s.addr := by
  unfold State.trigger; repeat' split
  all_goals simp
@[simp] theorem State.trigger_ctrl (c : Cycle) : (s.trigger c).ctrl = s.ctrl := by
  unfold State.trigger; repeat' split
  all_goals simp
@[simp] theorem State.trigger_status (c : Cycle) : (s.trigger c).status = s.status := by
  unfold State.trigger; repeat' split
  all_goals simp
@[simp] theorem State.trigger_refRate (c : Cycle) : (s.trigger c).refRate = s.refRate := by
  unfold State.trigger; repeat' split
  all_goals simp
@[simp] theorem State.trigger_selSeq (c : Cycle) : (s.trigger c).selSeq = s.selSeq := by
  unfold State.trigger; repeat' split
  all_goals simp
@[simp] theorem State.trigger_mdioSeq (c : Cycle) : (s.trigger c).mdioSeq = s.mdioSeq := by
  unfold State.trigger; repeat' split
  all_goals simp
@[simp] theorem State.trigger_resetDone (c : Cycle) : (s.trigger c).resetDone = s.resetDone := by
  unfold State.trigger; repeat' split
  all_goals simp
@[simp] theorem State.trigger_phy (c : Cycle) : (s.trigger c).phy = s.phy := by
  unfold State.trigger; repeat' split
  all_goals simp
@[simp] theorem State.trigger_lineFault (c : Cycle) : (s.trigger c).lineFault = s.lineFault := by
  unfold State.trigger; repeat' split
  all_goals simp
@[simp] theorem State.trigger_requests (c : Cycle) : (s.trigger c).requests = s.requests := by
  unfold State.trigger; repeat' split
  all_goals simp
@[simp] theorem State.trigger_clkAnswers (c : Cycle) : (s.trigger c).clkAnswers = s.clkAnswers := by
  unfold State.trigger; repeat' split
  all_goals simp
@[simp] theorem State.trigger_draws (c : Cycle) : (s.trigger c).draws = s.draws := by
  unfold State.trigger; repeat' split
  all_goals simp
@[simp] theorem State.trigger_history (c : Cycle) : (s.trigger c).history = s.history := by
  unfold State.trigger; repeat' split
  all_goals simp

/-! ### lineCmdStore leaves alone -/

@[simp] theorem State.lineCmdStore_cfg (v : Word) : (s.lineCmdStore v).cfg = s.cfg := by
  unfold State.lineCmdStore; repeat' split
  all_goals simp
@[simp] theorem State.lineCmdStore_level (v : Word) : (s.lineCmdStore v).level = s.level := by
  unfold State.lineCmdStore; repeat' split
  all_goals simp
@[simp] theorem State.lineCmdStore_resetDone (v : Word) : (s.lineCmdStore v).resetDone = s.resetDone := by
  unfold State.lineCmdStore; repeat' split
  all_goals simp
@[simp] theorem State.lineCmdStore_miictrl0 (v : Word) : (s.lineCmdStore v).miictrl0 = s.miictrl0 := by
  unfold State.lineCmdStore; repeat' split
  all_goals simp
@[simp] theorem State.lineCmdStore_miictrl1 (v : Word) : (s.lineCmdStore v).miictrl1 = s.miictrl1 := by
  unfold State.lineCmdStore; repeat' split
  all_goals simp
@[simp] theorem State.lineCmdStore_cfgReg (v : Word) : (s.lineCmdStore v).cfgReg = s.cfgReg := by
  unfold State.lineCmdStore; repeat' split
  all_goals simp
@[simp] theorem State.lineCmdStore_cmd (v : Word) : (s.lineCmdStore v).cmd = s.cmd := by
  unfold State.lineCmdStore; repeat' split
  all_goals simp
@[simp] theorem State.lineCmdStore_addr (v : Word) : (s.lineCmdStore v).addr = s.addr := by
  unfold State.lineCmdStore; repeat' split
  all_goals simp
@[simp] theorem State.lineCmdStore_ctrl (v : Word) : (s.lineCmdStore v).ctrl = s.ctrl := by
  unfold State.lineCmdStore; repeat' split
  all_goals simp
@[simp] theorem State.lineCmdStore_status (v : Word) : (s.lineCmdStore v).status = s.status := by
  unfold State.lineCmdStore; repeat' split
  all_goals simp
@[simp] theorem State.lineCmdStore_refRate (v : Word) : (s.lineCmdStore v).refRate = s.refRate := by
  unfold State.lineCmdStore; repeat' split
  all_goals simp
@[simp] theorem State.lineCmdStore_selSeq (v : Word) : (s.lineCmdStore v).selSeq = s.selSeq := by
  unfold State.lineCmdStore; repeat' split
  all_goals simp
@[simp] theorem State.lineCmdStore_mdioSeq (v : Word) : (s.lineCmdStore v).mdioSeq = s.mdioSeq := by
  unfold State.lineCmdStore; repeat' split
  all_goals simp
@[simp] theorem State.lineCmdStore_phy (v : Word) : (s.lineCmdStore v).phy = s.phy := by
  unfold State.lineCmdStore; repeat' split
  all_goals simp
@[simp] theorem State.lineCmdStore_requests (v : Word) : (s.lineCmdStore v).requests = s.requests := by
  unfold State.lineCmdStore; repeat' split
  all_goals simp
@[simp] theorem State.lineCmdStore_clkAnswers (v : Word) : (s.lineCmdStore v).clkAnswers = s.clkAnswers := by
  unfold State.lineCmdStore; repeat' split
  all_goals simp
@[simp] theorem State.lineCmdStore_draws (v : Word) : (s.lineCmdStore v).draws = s.draws := by
  unfold State.lineCmdStore; repeat' split
  all_goals simp
@[simp] theorem State.lineCmdStore_history (v : Word) : (s.lineCmdStore v).history = s.history := by
  unfold State.lineCmdStore; repeat' split
  all_goals simp

/-! ### lineCtrlStore leaves alone -/

@[simp] theorem State.lineCtrlStore_cfg (v : Word) : (s.lineCtrlStore v).cfg = s.cfg := by
  unfold State.lineCtrlStore; repeat' split
  all_goals simp
@[simp] theorem State.lineCtrlStore_level (v : Word) : (s.lineCtrlStore v).level = s.level := by
  unfold State.lineCtrlStore; repeat' split
  all_goals simp
@[simp] theorem State.lineCtrlStore_resetDone (v : Word) : (s.lineCtrlStore v).resetDone = s.resetDone := by
  unfold State.lineCtrlStore; repeat' split
  all_goals simp
@[simp] theorem State.lineCtrlStore_miictrl0 (v : Word) : (s.lineCtrlStore v).miictrl0 = s.miictrl0 := by
  unfold State.lineCtrlStore; repeat' split
  all_goals simp
@[simp] theorem State.lineCtrlStore_miictrl1 (v : Word) : (s.lineCtrlStore v).miictrl1 = s.miictrl1 := by
  unfold State.lineCtrlStore; repeat' split
  all_goals simp
@[simp] theorem State.lineCtrlStore_cfgReg (v : Word) : (s.lineCtrlStore v).cfgReg = s.cfgReg := by
  unfold State.lineCtrlStore; repeat' split
  all_goals simp
@[simp] theorem State.lineCtrlStore_cmd (v : Word) : (s.lineCtrlStore v).cmd = s.cmd := by
  unfold State.lineCtrlStore; repeat' split
  all_goals simp
@[simp] theorem State.lineCtrlStore_addr (v : Word) : (s.lineCtrlStore v).addr = s.addr := by
  unfold State.lineCtrlStore; repeat' split
  all_goals simp
@[simp] theorem State.lineCtrlStore_ctrl (v : Word) : (s.lineCtrlStore v).ctrl = s.ctrl := by
  unfold State.lineCtrlStore; repeat' split
  all_goals simp
@[simp] theorem State.lineCtrlStore_status (v : Word) : (s.lineCtrlStore v).status = s.status := by
  unfold State.lineCtrlStore; repeat' split
  all_goals simp
@[simp] theorem State.lineCtrlStore_refRate (v : Word) : (s.lineCtrlStore v).refRate = s.refRate := by
  unfold State.lineCtrlStore; repeat' split
  all_goals simp
@[simp] theorem State.lineCtrlStore_selSeq (v : Word) : (s.lineCtrlStore v).selSeq = s.selSeq := by
  unfold State.lineCtrlStore; repeat' split
  all_goals simp
@[simp] theorem State.lineCtrlStore_mdioSeq (v : Word) : (s.lineCtrlStore v).mdioSeq = s.mdioSeq := by
  unfold State.lineCtrlStore; repeat' split
  all_goals simp
@[simp] theorem State.lineCtrlStore_phy (v : Word) : (s.lineCtrlStore v).phy = s.phy := by
  unfold State.lineCtrlStore; repeat' split
  all_goals simp
@[simp] theorem State.lineCtrlStore_requests (v : Word) : (s.lineCtrlStore v).requests = s.requests := by
  unfold State.lineCtrlStore; repeat' split
  all_goals simp
@[simp] theorem State.lineCtrlStore_clkAnswers (v : Word) : (s.lineCtrlStore v).clkAnswers = s.clkAnswers := by
  unfold State.lineCtrlStore; repeat' split
  all_goals simp
@[simp] theorem State.lineCtrlStore_draws (v : Word) : (s.lineCtrlStore v).draws = s.draws := by
  unfold State.lineCtrlStore; repeat' split
  all_goals simp
@[simp] theorem State.lineCtrlStore_history (v : Word) : (s.lineCtrlStore v).history = s.history := by
  unfold State.lineCtrlStore; repeat' split
  all_goals simp

/-! ### lineCfgStore leaves alone -/

@[simp] theorem State.lineCfgStore_cfg (v : Word) : (s.lineCfgStore v).cfg = s.cfg := by
  unfold State.lineCfgStore; split <;> simp
@[simp] theorem State.lineCfgStore_level (v : Word) : (s.lineCfgStore v).level = s.level := by
  unfold State.lineCfgStore; split <;> simp
@[simp] theorem State.lineCfgStore_resetDone (v : Word) : (s.lineCfgStore v).resetDone = s.resetDone := by
  unfold State.lineCfgStore; split <;> simp
@[simp] theorem State.lineCfgStore_miictrl0 (v : Word) : (s.lineCfgStore v).miictrl0 = s.miictrl0 := by
  unfold State.lineCfgStore; split <;> simp
@[simp] theorem State.lineCfgStore_miictrl1 (v : Word) : (s.lineCfgStore v).miictrl1 = s.miictrl1 := by
  unfold State.lineCfgStore; split <;> simp
@[simp] theorem State.lineCfgStore_cfgReg (v : Word) : (s.lineCfgStore v).cfgReg = s.cfgReg := by
  unfold State.lineCfgStore; split <;> simp
@[simp] theorem State.lineCfgStore_addr (v : Word) : (s.lineCfgStore v).addr = s.addr := by
  unfold State.lineCfgStore; split <;> simp
@[simp] theorem State.lineCfgStore_ctrl (v : Word) : (s.lineCfgStore v).ctrl = s.ctrl := by
  unfold State.lineCfgStore; split <;> simp
@[simp] theorem State.lineCfgStore_status (v : Word) : (s.lineCfgStore v).status = s.status := by
  unfold State.lineCfgStore; split <;> simp
@[simp] theorem State.lineCfgStore_refRate (v : Word) : (s.lineCfgStore v).refRate = s.refRate := by
  unfold State.lineCfgStore; split <;> simp
@[simp] theorem State.lineCfgStore_selSeq (v : Word) : (s.lineCfgStore v).selSeq = s.selSeq := by
  unfold State.lineCfgStore; split <;> simp
@[simp] theorem State.lineCfgStore_mdioSeq (v : Word) : (s.lineCfgStore v).mdioSeq = s.mdioSeq := by
  unfold State.lineCfgStore; split <;> simp
@[simp] theorem State.lineCfgStore_phy (v : Word) : (s.lineCfgStore v).phy = s.phy := by
  unfold State.lineCfgStore; split <;> simp
@[simp] theorem State.lineCfgStore_lineFault (v : Word) : (s.lineCfgStore v).lineFault = s.lineFault := by
  unfold State.lineCfgStore; split <;> simp
@[simp] theorem State.lineCfgStore_countdown (v : Word) : (s.lineCfgStore v).countdown = s.countdown := by
  unfold State.lineCfgStore; split <;> simp
@[simp] theorem State.lineCfgStore_requests (v : Word) : (s.lineCfgStore v).requests = s.requests := by
  unfold State.lineCfgStore; split <;> simp
@[simp] theorem State.lineCfgStore_clkAnswers (v : Word) : (s.lineCfgStore v).clkAnswers = s.clkAnswers := by
  unfold State.lineCfgStore; split <;> simp
@[simp] theorem State.lineCfgStore_draws (v : Word) : (s.lineCfgStore v).draws = s.draws := by
  unfold State.lineCfgStore; split <;> simp
@[simp] theorem State.lineCfgStore_turns (v : Word) : (s.lineCfgStore v).turns = s.turns := by
  unfold State.lineCfgStore; split <;> simp
@[simp] theorem State.lineCfgStore_drawn (v : Word) : (s.lineCfgStore v).drawn = s.drawn := by
  unfold State.lineCfgStore; split <;> simp
@[simp] theorem State.lineCfgStore_history (v : Word) : (s.lineCfgStore v).history = s.history := by
  unfold State.lineCfgStore; split <;> simp

/-! ### lineStore leaves alone -/

@[simp] theorem State.lineStore_cfg (r : Reg) (v : Word) : (s.lineStore r v).cfg = s.cfg := by
  unfold State.lineStore; repeat' split
  all_goals simp
@[simp] theorem State.lineStore_level (r : Reg) (v : Word) : (s.lineStore r v).level = s.level := by
  unfold State.lineStore; repeat' split
  all_goals simp
@[simp] theorem State.lineStore_resetDone (r : Reg) (v : Word) : (s.lineStore r v).resetDone = s.resetDone := by
  unfold State.lineStore; repeat' split
  all_goals simp
@[simp] theorem State.lineStore_miictrl0 (r : Reg) (v : Word) : (s.lineStore r v).miictrl0 = s.miictrl0 := by
  unfold State.lineStore; repeat' split
  all_goals simp
@[simp] theorem State.lineStore_miictrl1 (r : Reg) (v : Word) : (s.lineStore r v).miictrl1 = s.miictrl1 := by
  unfold State.lineStore; repeat' split
  all_goals simp
@[simp] theorem State.lineStore_cfgReg (r : Reg) (v : Word) : (s.lineStore r v).cfgReg = s.cfgReg := by
  unfold State.lineStore; repeat' split
  all_goals simp
@[simp] theorem State.lineStore_addr (r : Reg) (v : Word) : (s.lineStore r v).addr = s.addr := by
  unfold State.lineStore; repeat' split
  all_goals simp
@[simp] theorem State.lineStore_ctrl (r : Reg) (v : Word) : (s.lineStore r v).ctrl = s.ctrl := by
  unfold State.lineStore; repeat' split
  all_goals simp
@[simp] theorem State.lineStore_status (r : Reg) (v : Word) : (s.lineStore r v).status = s.status := by
  unfold State.lineStore; repeat' split
  all_goals simp
@[simp] theorem State.lineStore_refRate (r : Reg) (v : Word) : (s.lineStore r v).refRate = s.refRate := by
  unfold State.lineStore; repeat' split
  all_goals simp
@[simp] theorem State.lineStore_selSeq (r : Reg) (v : Word) : (s.lineStore r v).selSeq = s.selSeq := by
  unfold State.lineStore; repeat' split
  all_goals simp
@[simp] theorem State.lineStore_mdioSeq (r : Reg) (v : Word) : (s.lineStore r v).mdioSeq = s.mdioSeq := by
  unfold State.lineStore; repeat' split
  all_goals simp
@[simp] theorem State.lineStore_phy (r : Reg) (v : Word) : (s.lineStore r v).phy = s.phy := by
  unfold State.lineStore; repeat' split
  all_goals simp
@[simp] theorem State.lineStore_requests (r : Reg) (v : Word) : (s.lineStore r v).requests = s.requests := by
  unfold State.lineStore; repeat' split
  all_goals simp
@[simp] theorem State.lineStore_clkAnswers (r : Reg) (v : Word) : (s.lineStore r v).clkAnswers = s.clkAnswers := by
  unfold State.lineStore; repeat' split
  all_goals simp
@[simp] theorem State.lineStore_draws (r : Reg) (v : Word) : (s.lineStore r v).draws = s.draws := by
  unfold State.lineStore; repeat' split
  all_goals simp
@[simp] theorem State.lineStore_history (r : Reg) (v : Word) : (s.lineStore r v).history = s.history := by
  unfold State.lineStore; repeat' split
  all_goals simp

/-! ### lineTurn leaves alone -/

@[simp] theorem State.lineTurn_cfg : (s.lineTurn).cfg = s.cfg := by
  unfold State.lineTurn; repeat' split
  all_goals simp
@[simp] theorem State.lineTurn_level : (s.lineTurn).level = s.level := by
  unfold State.lineTurn; repeat' split
  all_goals simp
@[simp] theorem State.lineTurn_resetDone : (s.lineTurn).resetDone = s.resetDone := by
  unfold State.lineTurn; repeat' split
  all_goals simp
@[simp] theorem State.lineTurn_miictrl0 : (s.lineTurn).miictrl0 = s.miictrl0 := by
  unfold State.lineTurn; repeat' split
  all_goals simp
@[simp] theorem State.lineTurn_miictrl1 : (s.lineTurn).miictrl1 = s.miictrl1 := by
  unfold State.lineTurn; repeat' split
  all_goals simp
@[simp] theorem State.lineTurn_cfgReg : (s.lineTurn).cfgReg = s.cfgReg := by
  unfold State.lineTurn; repeat' split
  all_goals simp
@[simp] theorem State.lineTurn_cmd : (s.lineTurn).cmd = s.cmd := by
  unfold State.lineTurn; repeat' split
  all_goals simp
@[simp] theorem State.lineTurn_addr : (s.lineTurn).addr = s.addr := by
  unfold State.lineTurn; repeat' split
  all_goals simp
@[simp] theorem State.lineTurn_ctrl : (s.lineTurn).ctrl = s.ctrl := by
  unfold State.lineTurn; repeat' split
  all_goals simp
@[simp] theorem State.lineTurn_refRate : (s.lineTurn).refRate = s.refRate := by
  unfold State.lineTurn; repeat' split
  all_goals simp
@[simp] theorem State.lineTurn_selSeq : (s.lineTurn).selSeq = s.selSeq := by
  unfold State.lineTurn; repeat' split
  all_goals simp
@[simp] theorem State.lineTurn_mdioSeq : (s.lineTurn).mdioSeq = s.mdioSeq := by
  unfold State.lineTurn; repeat' split
  all_goals simp
@[simp] theorem State.lineTurn_lineFault : (s.lineTurn).lineFault = s.lineFault := by
  unfold State.lineTurn; repeat' split
  all_goals simp
@[simp] theorem State.lineTurn_countdown : (s.lineTurn).countdown = s.countdown := by
  unfold State.lineTurn; repeat' split
  all_goals simp
@[simp] theorem State.lineTurn_requests : (s.lineTurn).requests = s.requests := by
  unfold State.lineTurn; repeat' split
  all_goals simp
@[simp] theorem State.lineTurn_clkAnswers : (s.lineTurn).clkAnswers = s.clkAnswers := by
  unfold State.lineTurn; repeat' split
  all_goals simp
@[simp] theorem State.lineTurn_draws : (s.lineTurn).draws = s.draws := by
  unfold State.lineTurn; repeat' split
  all_goals simp
@[simp] theorem State.lineTurn_history : (s.lineTurn).history = s.history := by
  unfold State.lineTurn; repeat' split
  all_goals simp

/-! ### Loads and triggers, before the first successful reset and otherwise -/

/-- Away from a `read` or `write` before the first successful `reset` a load returns what the line drives. -/
theorem State.lineLoad_driven {s : State} (h : s.beforeReset = false) (r : Reg) :
    s.lineLoad r = ((s.lineDrive r).readReg r, s.lineDrive r) := by
  simp [State.lineLoad, h]

/-- In a `read` or `write` before the first successful `reset` an Indicator load returns an arbitrary word. -/
theorem State.lineLoad_ind_before {s : State} (h : s.beforeReset = true) : s.lineLoad .ind = s.indTick.drawWord := by
  simp [State.lineLoad, h]

/-- In a `read` or `write` before the first successful `reset` a Status load returns an arbitrary word. -/
theorem State.lineLoad_status_before {s : State} (h : s.beforeReset = true) : s.lineLoad .status = s.drawWord := by
  simp [State.lineLoad, h]

/-- A load of a register that is not the line's returns the word it holds and changes nothing (R67). -/
theorem State.lineLoad_other {s : State} {r : Reg} (h1 : r ≠ .status) (h2 : r ≠ .ind) :
    s.lineLoad r = (s.readReg r, s) := by
  unfold State.lineLoad
  split <;> cases r <;> first | rfl | exact absurd rfl h1 | exact absurd rfl h2

/-- A `reset` that has answered OK ends it for good. -/
@[simp] theorem State.beforeReset_of_resetDone {s : State} (h : s.resetDone = true) : s.beforeReset = false := by
  simp [State.beforeReset, h]

/-- On the open line there is nothing it could change. -/
theorem State.beforeReset_openLine {s : State} (h : s.level = .openLine) : s.beforeReset = false := by
  simp [State.beforeReset, h]

/-- Only a `read` or a `write` is concerned. -/
theorem State.beforeReset_of_transacts {s : State} (h : s.mdioSeq.transacts = false) : s.beforeReset = false := by
  simp [State.beforeReset, h]

/-- A trigger starts its cycle but before the first successful `reset`. -/
theorem State.trigger_eq {s : State} (h : s.beforeReset = false) (c : Cycle) : s.trigger c = s.startCycle c := by
  simp [State.trigger, h]

/-- What a trigger can do before the first successful `reset`: start its cycle, or nothing. -/
theorem State.trigger_before {s : State} (h : s.beforeReset = true) (c : Cycle) :
    s.trigger c = s.drawTurn.2.startCycle c ∨ s.trigger c = s.drawTurn.2 := by
  simp only [State.trigger, h, if_true]
  split
  · exact .inl rfl
  · exact .inr rfl

/-! ### What a load can change -/

/-- What an Indicator load can change: the line's own state. -/
theorem State.driveInd_frame :
    s.driveInd =
      { s with
        ind := s.driveInd.ind
        status := s.driveInd.status
        pending := s.driveInd.pending
        phy := s.driveInd.phy
        countdown := s.driveInd.countdown
        draws := s.driveInd.draws
        drawn := s.driveInd.drawn } := by
  have h1 := s.driveInd_cfg
  have h2 := s.driveInd_level
  have h3 := s.driveInd_miictrl0
  have h4 := s.driveInd_miictrl1
  have h5 := s.driveInd_cfgReg
  have h6 := s.driveInd_cmd
  have h7 := s.driveInd_addr
  have h8 := s.driveInd_ctrl
  have h9 := s.driveInd_refRate
  have h10 := s.driveInd_selSeq
  have h11 := s.driveInd_mdioSeq
  have h12 := s.driveInd_lineFault
  have h13 := s.driveInd_requests
  have h14 := s.driveInd_clkAnswers
  have h15 := s.driveInd_turns
  have h16 := s.driveInd_history
  have h17 := s.driveInd_resetDone
  cases h : s.driveInd
  simp_all

/-- An Indicator load reads neither the sequencer nor the history. -/
theorem State.driveInd_congr (q : MdioSeq) (h : List Event) :
    State.driveInd { s with mdioSeq := q, history := h } = { s.driveInd with mdioSeq := q, history := h } := by
  unfold State.driveInd State.drawWord State.simPoll State.completeCycle State.clearCycle
  cases hl : s.level with
  | openLine => cases s.draws <;> rfl
  | wellBehaved => cases s.draws <;> rfl
  | simPhy l =>
    cases l with
    | none => rfl
    | some l =>
      cases hp : s.pending with
      | none => simp [hl, hp]
      | some c =>
        cases c <;> simp only <;> split <;> simp

/-- What a Status load can change: `STATUS`, and what the line has drawn. -/
theorem State.driveStatus_frame :
    s.driveStatus =
      { s with status := s.driveStatus.status, draws := s.driveStatus.draws, drawn := s.driveStatus.drawn } := by
  unfold State.driveStatus State.drawWord
  cases s.level <;> cases s.draws <;> rfl

/-- On the levels that have a line a Status load leaves the data field alone (R198, R200). -/
theorem State.driveStatus_data (h : s.level ≠ .openLine) :
    s.driveStatus.status &&& 0xFFFF#32 = s.status &&& 0xFFFF#32 := by
  unfold State.driveStatus
  split
  · exact absurd (by assumption) h
  · have hm : (0xFFFF0000#32 : Word) &&& 0xFFFF#32 = 0#32 := by decide
    have hn : (0xFFFF#32 : Word) &&& 0xFFFF#32 = 0xFFFF#32 := by decide
    have hd : ∀ x y z : Word, (x ||| y) &&& z = (x &&& z) ||| (y &&& z) := by
      intro x y z; ext i hi; simp; grind
    rw [hd, BitVec.and_assoc, hm, BitVec.and_assoc, hn]
    simp
  · rw [BitVec.and_assoc]
    congr 1

end Sys2Proof.Machine
end

