-- ==== Sys2Proof/Laws/Map.lean ====
section
/-! SUPPORT. The address map under a valid configuration (20_memory.md R61, R62), and single-bit masks. -/

namespace Sys2Proof

variable {c : Config}

/-- A single-bit mask is a power of two below 2^32. -/
theorem oneBit_exists {w : Word} (h : oneBit w = true) : ∃ k, k < 32 ∧ w = 1#32 <<< k := by
  simpa [oneBit, List.any_eq_true] using h

theorem oneBit_ne_zero {w : Word} (h : oneBit w = true) : w ≠ 0#32 := by
  obtain ⟨k, hk, rfl⟩ := oneBit_exists h
  intro h0
  have := congrArg (fun x => x.getLsbD k) h0
  simp [hk] at this

/-- The six MDIO offsets are distinct, pair by pair. -/
theorem Config.Valid.offsets (h : c.Valid) :
    c.cfgOff ≠ c.cmdOff ∧ c.cfgOff ≠ c.addrOff ∧ c.cfgOff ≠ c.ctrlOff ∧ c.cfgOff ≠ c.statusOff ∧ c.cfgOff ≠ c.indOff ∧
    c.cmdOff ≠ c.addrOff ∧ c.cmdOff ≠ c.ctrlOff ∧ c.cmdOff ≠ c.statusOff ∧ c.cmdOff ≠ c.indOff ∧
    c.addrOff ≠ c.ctrlOff ∧ c.addrOff ≠ c.statusOff ∧ c.addrOff ≠ c.indOff ∧
    c.ctrlOff ≠ c.statusOff ∧ c.ctrlOff ≠ c.indOff ∧ c.statusOff ≠ c.indOff := by
  have hn := h.2.2.1
  simp [Config.mdioOffsets, List.nodup_cons] at hn
  tauto

theorem Config.Valid.regAt_cfg (_h : c.Valid) : c.regAt .mdiowin c.cfgOff = some .cfg := by
  simp [Config.regAt]

theorem Config.Valid.regAt_cmd (h : c.Valid) : c.regAt .mdiowin c.cmdOff = some .cmd := by
  have := h.offsets
  simp [Config.regAt, Ne.symm this.1]

theorem Config.Valid.regAt_addr (h : c.Valid) : c.regAt .mdiowin c.addrOff = some .addr := by
  have := h.offsets
  simp only [Config.regAt]
  rw [if_neg (by tauto), if_neg (by tauto), if_pos trivial]

theorem Config.Valid.regAt_ctrl (h : c.Valid) : c.regAt .mdiowin c.ctrlOff = some .ctrl := by
  have := h.offsets
  simp only [Config.regAt]
  rw [if_neg (by tauto), if_neg (by tauto), if_neg (by tauto), if_pos trivial]

theorem Config.Valid.regAt_status (h : c.Valid) : c.regAt .mdiowin c.statusOff = some .status := by
  have := h.offsets
  simp only [Config.regAt]
  rw [if_neg (by tauto), if_neg (by tauto), if_neg (by tauto), if_neg (by tauto), if_pos trivial]

theorem Config.Valid.regAt_ind (h : c.Valid) : c.regAt .mdiowin c.indOff = some .ind := by
  have := h.offsets
  simp only [Config.regAt]
  rw [if_neg (by tauto), if_neg (by tauto), if_neg (by tauto), if_neg (by tauto), if_neg (by tauto), if_pos trivial]

theorem Config.Valid.regAt_port0 (h : c.Valid) : c.regAt .selwin (c.portOffset 0) = some .miictrl0 := by
  have h1 := h.1.1
  simp only [Config.regAt]
  rw [if_pos ⟨trivial, by omega⟩]

theorem Config.Valid.regAt_port1 (h : c.Valid) (h2 : 1 < c.portCount) :
    c.regAt .selwin (c.portOffset 1) = some .miictrl1 := by
  have hs := h.2.1.2.1
  simp only [Config.regAt, Config.portOffset]
  rw [if_neg (by omega), if_pos ⟨trivial, h2⟩]

theorem Config.Valid.indBusy_ne_zero (h : c.Valid) : c.indBusy ≠ 0#32 := oneBit_ne_zero h.2.2.2.2.2.1

theorem Config.Valid.resetBit_ne_zero (h : c.Valid) : c.resetBit ≠ 0#32 := oneBit_ne_zero h.2.2.2.2.1

theorem Config.Valid.commands_ne (h : c.Valid) : c.cmdWrite ≠ c.cmdRead := h.2.2.2.2.2.2

/-- Setting the busy bit sets it, clearing it clears it. -/
theorem Config.Valid.busyIn_set (h : c.Valid) (w : Word) : c.busyIn (w ||| c.indBusy) = true := by
  have hb := h.indBusy_ne_zero
  have hm : (w ||| c.indBusy) &&& c.indBusy = c.indBusy := by ext i hi; simp; tauto
  simp [Config.busyIn, hm, hb]

theorem Config.busyIn_clear (c : Config) (w : Word) : c.busyIn (w &&& ~~~c.indBusy) = false := by
  have hm : (w &&& ~~~c.indBusy) &&& c.indBusy = 0#32 := by ext i hi; simp
  simp [Config.busyIn, hm]

/-- Bits outside the busy bit do not matter. -/
theorem Config.busyIn_mix (c : Config) (x w : Word) :
    c.busyIn ((x &&& ~~~c.indBusy) ||| (w &&& c.indBusy)) = c.busyIn w := by
  have hm : ((x &&& ~~~c.indBusy) ||| (w &&& c.indBusy)) &&& c.indBusy = w &&& c.indBusy := by
    ext i hi
    simp only [BitVec.getElem_and, BitVec.getElem_or, BitVec.getElem_not]
    cases c.indBusy[i] <;> simp
  simp [Config.busyIn, hm]

theorem Config.busyIn_and (c : Config) (w : Word) : c.busyIn (w &&& c.indBusy) = c.busyIn w := by
  simp [Config.busyIn, BitVec.and_assoc]

/-- A divider keeps clear of `RESET_BIT` (R12), so the two fields of `CFG` do not mix. -/
theorem Config.Valid.divider_and_resetBit (h : c.Valid) {d : Nat} (hd : d ∈ c.dividerTable) :
    BitVec.ofNat 32 d &&& c.resetBit = 0#32 := by
  obtain ⟨k, hk, hw⟩ := oneBit_exists h.2.2.2.2.1
  have hlt := (h.1.2.2 d hd).2
  rw [hw] at hlt ⊢
  have hpow : (1#32 <<< k).toNat = 2 ^ k := by
    rw [BitVec.toNat_shiftLeft, Nat.shiftLeft_eq]
    simp only [BitVec.toNat_ofNat, Nat.reducePow, Nat.one_mod, one_mul]
    exact Nat.mod_eq_of_lt (Nat.pow_lt_pow_right (by omega) hk)
  rw [hpow] at hlt
  ext i hi
  by_cases hik : i = k
  · subst hik
    have hd0 : (BitVec.ofNat 32 d)[i] = false := by
      rw [← BitVec.getLsbD_eq_getElem, BitVec.getLsbD_ofNat]
      simp [Nat.testBit_lt_two_pow hlt]
    simp [hd0]
  · simp [BitVec.getElem_and, BitVec.getElem_shiftLeft, BitVec.getElem_one]
    omega

theorem Config.Valid.resetBit_or (h : c.Valid) (w : Word) : (w ||| c.resetBit) &&& c.resetBit ≠ 0#32 := by
  have hm : (w ||| c.resetBit) &&& c.resetBit = c.resetBit := by ext i hi; simp; tauto
  rw [hm]
  exact h.resetBit_ne_zero

end Sys2Proof
end

