-- ==== Sys2Proof/Laws/Flags.lean ====
section
/-! SUPPORT. When a result has a response word (30_encoding.md R96), and what the word of a port depends on. -/

namespace Sys2Proof

variable {c : Config} {r : Machine.Result}

/-- A configuration without the binary form has no response word at all. -/
theorem Config.responseWord_refused (h : ¬c.HasBinaryForm) : c.responseWord r = .error .noBinaryForm := by
  rw [Config.responseWord, if_neg h]

/-- A configuration with the binary form has the word of every result whose value fits its field. -/
theorem Config.responseWord_eq (h : c.HasBinaryForm) (hr : r.valueField < 65536) :
    c.responseWord r = .ok ((r.code.setWidth 32 <<< 16) ||| (BitVec.ofNat 16 r.valueField).setWidth 32) := by
  rw [Config.responseWord, if_pos h, Machine.Result.word, if_pos hr]

namespace Machine

/-- The word of a port depends on the two port words alone. -/
theorem State.portWord_congr {s t : State} (h0 : t.miictrl0 = s.miictrl0) (h1 : t.miictrl1 = s.miictrl1) (p : Nat) :
    t.portWord p = s.portWord p := by
  rw [State.portWord, State.portWord, h0, h1]

@[simp] theorem State.lineTurn_portWord (s : State) (p : Nat) : s.lineTurn.portWord p = s.portWord p :=
  State.portWord_congr (by simp) (by simp) p

end Machine

end Sys2Proof
end

