-- ==== Sys2Proof/Laws/Ops.lean ====
section
/-! SUPPORT. What the two access primitives answer (20_memory.md R64): one equation for a load, one for a store, and
the fields a store leaves alone. -/

namespace Sys2Proof.Machine

variable (s : State)

/-- The state after a load of register `r` at an offset that names it. -/
def State.loaded (s : State) (r : Reg) (win : Window) (off : Nat) : State :=
  (s.loadReg r win off).2

/-- The state after a store to register `r` at an offset that names it: the store, then its read-back. -/
def State.wrote (s : State) (r : Reg) (win : Window) (off : Nat) (v : Word) : State :=
  ((s.storeReg r v).record (.st win off v)).record (.ld win off v)

variable {s}

theorem State.regRead_eq {win : Window} {off : Nat} {r : Reg} (hr : s.cfg.regAt win off = some r) :
    s.regRead win off = .ok ((s.lineLoad r).1, s.loaded r win off) := by
  simp [State.regRead, hr, State.loaded, State.loadReg]

/-- A load that succeeds names a register, and is `State.regRead_eq` for it. -/
theorem State.regRead_ok {win : Window} {off : Nat} {v : Word} {t : State} (h : s.regRead win off = .ok (v, t)) :
    ∃ r, s.cfg.regAt win off = some r ∧ v = (s.lineLoad r).1 ∧ t = s.loaded r win off := by
  cases hr : s.cfg.regAt win off with
  | none => simp [State.regRead, hr] at h
  | some r =>
    rw [State.regRead_eq hr] at h
    simp only [Except.ok.injEq, Prod.mk.injEq] at h
    exact ⟨r, rfl, h.1.symm, h.2.symm⟩

/-- The line drives nothing onto a register that is not its own (R198). -/
theorem State.lineDrive_other {r : Reg} (h1 : r ≠ .status) (h2 : r ≠ .ind) : s.lineDrive r = s := by
  cases r <;> first | rfl | exact absurd rfl h1 | exact absurd rfl h2

/-- A load of a register that is not the line's only records the load (R67). -/
theorem State.loaded_other {r : Reg} (h1 : r ≠ .status) (h2 : r ≠ .ind) (win : Window) (off : Nat) :
    s.loaded r win off = s.record (.ld win off (s.readReg r)) := by
  simp only [State.loaded, State.loadReg, State.lineLoad_other h1 h2]

/-- A store to a writable register succeeds, and its read-back is the stored word (R64, R69). -/
theorem State.regWrite_eq {win : Window} {off : Nat} {r : Reg} (v : Word) (hr : s.cfg.regAt win off = some r)
    (h1 : r ≠ .status) (h2 : r ≠ .ind) : s.regWrite win off v = .ok (s.wrote r win off v) := by
  have hl : (((s.storeReg r v).record (.st win off v)).loadReg r win off).2 = s.wrote r win off v := by
    simp [State.loadReg, State.lineLoad_other h1 h2, State.wrote, State.storeReg]
  unfold State.regWrite
  rw [hr]
  cases r <;> first | exact absurd rfl h1 | exact absurd rfl h2 | exact congrArg Except.ok hl

variable (s)


/-! ### loaded -/

@[simp] theorem State.loaded_cfg (r : Reg) (win : Window) (off : Nat) : (s.loaded r win off).cfg = s.cfg := by
  simp [State.loaded, State.loadReg]
@[simp] theorem State.loaded_level (r : Reg) (win : Window) (off : Nat) : (s.loaded r win off).level = s.level := by
  simp [State.loaded, State.loadReg]
@[simp] theorem State.loaded_resetDone (r : Reg) (win : Window) (off : Nat) : (s.loaded r win off).resetDone = s.resetDone := by
  simp [State.loaded, State.loadReg]
@[simp] theorem State.loaded_miictrl0 (r : Reg) (win : Window) (off : Nat) : (s.loaded r win off).miictrl0 = s.miictrl0 := by
  simp [State.loaded, State.loadReg]
@[simp] theorem State.loaded_miictrl1 (r : Reg) (win : Window) (off : Nat) : (s.loaded r win off).miictrl1 = s.miictrl1 := by
  simp [State.loaded, State.loadReg]
@[simp] theorem State.loaded_cfgReg (r : Reg) (win : Window) (off : Nat) : (s.loaded r win off).cfgReg = s.cfgReg := by
  simp [State.loaded, State.loadReg]
@[simp] theorem State.loaded_cmd (r : Reg) (win : Window) (off : Nat) : (s.loaded r win off).cmd = s.cmd := by
  simp [State.loaded, State.loadReg]
@[simp] theorem State.loaded_addr (r : Reg) (win : Window) (off : Nat) : (s.loaded r win off).addr = s.addr := by
  simp [State.loaded, State.loadReg]
@[simp] theorem State.loaded_ctrl (r : Reg) (win : Window) (off : Nat) : (s.loaded r win off).ctrl = s.ctrl := by
  simp [State.loaded, State.loadReg]
@[simp] theorem State.loaded_refRate (r : Reg) (win : Window) (off : Nat) : (s.loaded r win off).refRate = s.refRate := by
  simp [State.loaded, State.loadReg]
@[simp] theorem State.loaded_selSeq (r : Reg) (win : Window) (off : Nat) : (s.loaded r win off).selSeq = s.selSeq := by
  simp [State.loaded, State.loadReg]
@[simp] theorem State.loaded_mdioSeq (r : Reg) (win : Window) (off : Nat) : (s.loaded r win off).mdioSeq = s.mdioSeq := by
  simp [State.loaded, State.loadReg]
@[simp] theorem State.loaded_lineFault (r : Reg) (win : Window) (off : Nat) : (s.loaded r win off).lineFault = s.lineFault := by
  simp [State.loaded, State.loadReg]
@[simp] theorem State.loaded_requests (r : Reg) (win : Window) (off : Nat) : (s.loaded r win off).requests = s.requests := by
  simp [State.loaded, State.loadReg]
@[simp] theorem State.loaded_clkAnswers (r : Reg) (win : Window) (off : Nat) : (s.loaded r win off).clkAnswers = s.clkAnswers := by
  simp [State.loaded, State.loadReg]
@[simp] theorem State.loaded_turns (r : Reg) (win : Window) (off : Nat) : (s.loaded r win off).turns = s.turns := by
  simp [State.loaded, State.loadReg]
@[simp] theorem State.loaded_history (r : Reg) (win : Window) (off : Nat) :
    (s.loaded r win off).history = s.history ++ [.ld win off (s.lineLoad r).1] := by
  simp [State.loaded, State.loadReg]

/-! ### wrote -/

@[simp] theorem State.wrote_cfg (r : Reg) (win : Window) (off : Nat) (v : Word) : (s.wrote r win off v).cfg = s.cfg := by
  simp [State.wrote, State.storeReg]
@[simp] theorem State.wrote_level (r : Reg) (win : Window) (off : Nat) (v : Word) : (s.wrote r win off v).level = s.level := by
  simp [State.wrote, State.storeReg]
@[simp] theorem State.wrote_resetDone (r : Reg) (win : Window) (off : Nat) (v : Word) : (s.wrote r win off v).resetDone = s.resetDone := by
  simp [State.wrote, State.storeReg]
@[simp] theorem State.wrote_refRate (r : Reg) (win : Window) (off : Nat) (v : Word) : (s.wrote r win off v).refRate = s.refRate := by
  simp [State.wrote, State.storeReg]
@[simp] theorem State.wrote_selSeq (r : Reg) (win : Window) (off : Nat) (v : Word) : (s.wrote r win off v).selSeq = s.selSeq := by
  simp [State.wrote, State.storeReg]
@[simp] theorem State.wrote_mdioSeq (r : Reg) (win : Window) (off : Nat) (v : Word) : (s.wrote r win off v).mdioSeq = s.mdioSeq := by
  simp [State.wrote, State.storeReg]
@[simp] theorem State.wrote_phy (r : Reg) (win : Window) (off : Nat) (v : Word) : (s.wrote r win off v).phy = s.phy := by
  simp [State.wrote, State.storeReg]
@[simp] theorem State.wrote_requests (r : Reg) (win : Window) (off : Nat) (v : Word) : (s.wrote r win off v).requests = s.requests := by
  simp [State.wrote, State.storeReg]
@[simp] theorem State.wrote_clkAnswers (r : Reg) (win : Window) (off : Nat) (v : Word) : (s.wrote r win off v).clkAnswers = s.clkAnswers := by
  simp [State.wrote, State.storeReg]
@[simp] theorem State.wrote_draws (r : Reg) (win : Window) (off : Nat) (v : Word) : (s.wrote r win off v).draws = s.draws := by
  simp [State.wrote, State.storeReg]
@[simp] theorem State.wrote_history (r : Reg) (win : Window) (off : Nat) (v : Word) :
    (s.wrote r win off v).history = s.history ++ [.st win off v, .ld win off v] := by
  simp [State.wrote, State.storeReg]

/-! ### clkQuery -/

@[simp] theorem State.clkQuery_cfg : s.clkQuery.2.cfg = s.cfg := by
  unfold State.clkQuery State.drawClk; split <;> rfl
@[simp] theorem State.clkQuery_level : s.clkQuery.2.level = s.level := by
  unfold State.clkQuery State.drawClk; split <;> rfl
@[simp] theorem State.clkQuery_resetDone : s.clkQuery.2.resetDone = s.resetDone := by
  unfold State.clkQuery State.drawClk; split <;> rfl
@[simp] theorem State.clkQuery_miictrl0 : s.clkQuery.2.miictrl0 = s.miictrl0 := by
  unfold State.clkQuery State.drawClk; split <;> rfl
@[simp] theorem State.clkQuery_miictrl1 : s.clkQuery.2.miictrl1 = s.miictrl1 := by
  unfold State.clkQuery State.drawClk; split <;> rfl
@[simp] theorem State.clkQuery_cfgReg : s.clkQuery.2.cfgReg = s.cfgReg := by
  unfold State.clkQuery State.drawClk; split <;> rfl
@[simp] theorem State.clkQuery_cmd : s.clkQuery.2.cmd = s.cmd := by
  unfold State.clkQuery State.drawClk; split <;> rfl
@[simp] theorem State.clkQuery_addr : s.clkQuery.2.addr = s.addr := by
  unfold State.clkQuery State.drawClk; split <;> rfl
@[simp] theorem State.clkQuery_ctrl : s.clkQuery.2.ctrl = s.ctrl := by
  unfold State.clkQuery State.drawClk; split <;> rfl
@[simp] theorem State.clkQuery_status : s.clkQuery.2.status = s.status := by
  unfold State.clkQuery State.drawClk; split <;> rfl
@[simp] theorem State.clkQuery_ind : s.clkQuery.2.ind = s.ind := by
  unfold State.clkQuery State.drawClk; split <;> rfl
@[simp] theorem State.clkQuery_refRate : s.clkQuery.2.refRate = s.refRate := by
  unfold State.clkQuery State.drawClk; split <;> rfl
@[simp] theorem State.clkQuery_selSeq : s.clkQuery.2.selSeq = s.selSeq := by
  unfold State.clkQuery State.drawClk; split <;> rfl
@[simp] theorem State.clkQuery_mdioSeq : s.clkQuery.2.mdioSeq = s.mdioSeq := by
  unfold State.clkQuery State.drawClk; split <;> rfl
@[simp] theorem State.clkQuery_pending : s.clkQuery.2.pending = s.pending := by
  unfold State.clkQuery State.drawClk; split <;> rfl
@[simp] theorem State.clkQuery_phy : s.clkQuery.2.phy = s.phy := by
  unfold State.clkQuery State.drawClk; split <;> rfl
@[simp] theorem State.clkQuery_lineFault : s.clkQuery.2.lineFault = s.lineFault := by
  unfold State.clkQuery State.drawClk; split <;> rfl
@[simp] theorem State.clkQuery_countdown : s.clkQuery.2.countdown = s.countdown := by
  unfold State.clkQuery State.drawClk; split <;> rfl
@[simp] theorem State.clkQuery_requests : s.clkQuery.2.requests = s.requests := by
  unfold State.clkQuery State.drawClk; split <;> rfl
@[simp] theorem State.clkQuery_draws : s.clkQuery.2.draws = s.draws := by
  unfold State.clkQuery State.drawClk; split <;> rfl
@[simp] theorem State.clkQuery_turns : s.clkQuery.2.turns = s.turns := by
  unfold State.clkQuery State.drawClk; split <;> rfl
@[simp] theorem State.clkQuery_history : s.clkQuery.2.history = s.history ++ [.clkQuery s.clkQuery.1] := by
  unfold State.clkQuery State.drawClk; split <;> rfl

/-! ### One store, register by register -/

theorem State.wrote_miictrl0 (win : Window) (off : Nat) (v : Word) :
    s.wrote .miictrl0 win off v = { s with miictrl0 := v, history := s.history ++ [.st win off v, .ld win off v] } := by
  simp only [State.wrote, State.storeReg, State.lineStore, State.record, State.setReg]
  split <;> simp

theorem State.wrote_miictrl1 (win : Window) (off : Nat) (v : Word) :
    s.wrote .miictrl1 win off v = { s with miictrl1 := v, history := s.history ++ [.st win off v, .ld win off v] } := by
  simp only [State.wrote, State.storeReg, State.lineStore, State.record, State.setReg]
  split <;> simp

/-- A store to `ADDR` changes only `ADDR` (R197). -/
theorem State.wrote_addr (win : Window) (off : Nat) (v : Word) :
    s.wrote .addr win off v = { s with addr := v, history := s.history ++ [.st win off v, .ld win off v] } := by
  simp only [State.wrote, State.storeReg, State.lineStore, State.record, State.setReg]
  split <;> simp

variable {s}

/-- A store of `CMD_WRITE` changes only the latch (R197). -/
theorem State.wrote_cmdWrite (h : s.cfg.Valid) (win : Window) (off : Nat) :
    s.wrote .cmd win off s.cfg.cmdWrite =
      { s with cmd := s.cfg.cmdWrite,
               history := s.history ++ [.st win off s.cfg.cmdWrite, .ld win off s.cfg.cmdWrite] } := by
  have hne := h.commands_ne
  simp only [State.wrote, State.storeReg, State.lineStore, State.lineCmdStore, State.record, State.setReg, if_neg hne]
  split <;> simp

/-- A store to `CFG` with `RESET_BIT` set: on the levels that have a line the cycle in flight is dropped and the latch
idles (R196). -/
theorem State.wrote_cfgAssert {v : Word} (h : v &&& s.cfg.resetBit ≠ 0#32) (win : Window) (off : Nat) :
    s.wrote .cfg win off v =
      { s with
        cfgReg := v
        cmd := if s.level = .openLine then s.cmd else s.cfg.cmdWrite
        pending := if s.level = .openLine then s.pending else none
        ind := if s.level = .openLine then s.ind else s.ind &&& ~~~s.cfg.indBusy
        history := s.history ++ [.st win off v, .ld win off v] } := by
  simp only [State.wrote, State.storeReg, State.lineStore, State.lineCfgStore, if_pos h, State.clearCycle, State.record,
    State.setReg]
  split <;> simp_all

/-- A store to `CFG` with `RESET_BIT` clear changes only `CFG` (R196). -/
theorem State.wrote_cfgRelease {v : Word} (h : v &&& s.cfg.resetBit = 0#32) (win : Window) (off : Nat) :
    s.wrote .cfg win off v = { s with cfgReg := v, history := s.history ++ [.st win off v, .ld win off v] } := by
  simp only [State.wrote, State.storeReg, State.lineStore, State.lineCfgStore, h, State.record, State.setReg]
  split <;> simp

/-- A store on the open line changes only its register (R191). -/
theorem State.wrote_openLine (h : s.level = .openLine) (r : Reg) (win : Window) (off : Nat) (v : Word) :
    s.wrote r win off v = { s.setReg r v with history := s.history ++ [.st win off v, .ld win off v] } := by
  simp only [State.wrote, State.storeReg, State.lineStore, h]
  cases r <;> simp [State.record, State.setReg]

/-- A store of `CMD_READ` on a level that has a line (R193, R199). -/
theorem State.wrote_cmdRead (h : s.level ≠ .openLine) (win : Window) (off : Nat) :
    s.wrote .cmd win off s.cfg.cmdRead =
      { s.lineCmdStore s.cfg.cmdRead with
        cmd := s.cfg.cmdRead
        history := s.history ++ [.st win off s.cfg.cmdRead, .ld win off s.cfg.cmdRead] } := by
  simp only [State.wrote, State.storeReg, State.lineStore]
  split
  · exact absurd (by assumption) h
  · simp [State.record, State.setReg]
  · simp [State.record, State.setReg]

/-- A store to `CTRL` on a level that has a line (R194, R199). -/
theorem State.wrote_ctrl (h : s.level ≠ .openLine) (win : Window) (off : Nat) (v : Word) :
    s.wrote .ctrl win off v =
      { s.lineCtrlStore v with ctrl := v, history := s.history ++ [.st win off v, .ld win off v] } := by
  simp only [State.wrote, State.storeReg, State.lineStore]
  split
  · exact absurd (by assumption) h
  · simp [State.record, State.setReg]
  · simp [State.record, State.setReg]

end Sys2Proof.Machine
end

