-- ==== Sys2Proof/Laws/Mdio.lean ====
section
/-! SUPPORT. Under a valid configuration every micro-step of an MDIO operation ends in a state, written here without
faults: one equation per micro-step function (41_mdio_controller.md R150 to R161). Later proofs use these equations and
do not unfold the access primitives. -/

namespace Sys2Proof.Machine

variable {s : State}

/-- The state after an Indicator load. -/
def State.polled (s : State) : State := s.loaded .ind .mdiowin s.cfg.indOff

/-- What a micro-step of a wait does (R156). -/
def State.waitNext (s : State) (pos : WaitPos) (again : WaitPos → MdioSeq) (notBusy timedOut : State → State) : State :=
  match pos with
  | .poll 0 => timedOut (s.record .diag)
  | .poll (n + 1) => if s.cfg.busyIn (s.lineLoad .ind).1 then s.polled.goTo (again (.delay n)) else notBusy s.polled
  | .delay n => (s.delay s.cfg.pollDelayUs).goTo (again (.poll n))

theorem State.regRead_ind (h : s.cfg.Valid) : s.regRead .mdiowin s.cfg.indOff = .ok ((s.lineLoad .ind).1, s.polled) :=
  State.regRead_eq h.regAt_ind

theorem State.waitThen_eq (h : s.cfg.Valid) (pos : WaitPos) (again : WaitPos → MdioSeq)
    (notBusy timedOut : State → State) :
    s.waitThen pos again notBusy timedOut = .ok (s.waitNext pos again notBusy timedOut) := by
  unfold State.waitThen State.waitStep State.waitNext
  match pos with
  | .poll 0 => rfl
  | .poll (n + 1) =>
    simp only [State.regRead_ind h]
    by_cases hb : s.cfg.busyIn (s.lineLoad .ind).1 = true <;> simp [hb]
  | .delay n => rfl

theorem State.storeThen_eq {off : Nat} {r : Reg} (v : Word) (next : State → State)
    (hr : s.cfg.regAt .mdiowin off = some r) (h1 : r ≠ .status) (h2 : r ≠ .ind) :
    s.storeThen off v next = .ok (next (s.wrote r .mdiowin off v)) := by
  simp [State.storeThen, State.regWrite_eq v hr h1 h2]

/-! ### resetWithClock -/

@[simp] theorem State.resetWithClock_cfg (q : Option Nat) : (s.resetWithClock q).cfg = s.cfg := by
  unfold State.resetWithClock; simp only; split <;> rfl
@[simp] theorem State.resetWithClock_level (q : Option Nat) : (s.resetWithClock q).level = s.level := by
  unfold State.resetWithClock; simp only; split <;> rfl
@[simp] theorem State.resetWithClock_resetDone (q : Option Nat) : (s.resetWithClock q).resetDone = s.resetDone := by
  unfold State.resetWithClock; simp only; split <;> rfl
@[simp] theorem State.resetWithClock_miictrl0 (q : Option Nat) : (s.resetWithClock q).miictrl0 = s.miictrl0 := by
  unfold State.resetWithClock; simp only; split <;> rfl
@[simp] theorem State.resetWithClock_miictrl1 (q : Option Nat) : (s.resetWithClock q).miictrl1 = s.miictrl1 := by
  unfold State.resetWithClock; simp only; split <;> rfl
@[simp] theorem State.resetWithClock_cfgReg (q : Option Nat) : (s.resetWithClock q).cfgReg = s.cfgReg := by
  unfold State.resetWithClock; simp only; split <;> rfl
@[simp] theorem State.resetWithClock_cmd (q : Option Nat) : (s.resetWithClock q).cmd = s.cmd := by
  unfold State.resetWithClock; simp only; split <;> rfl
@[simp] theorem State.resetWithClock_addr (q : Option Nat) : (s.resetWithClock q).addr = s.addr := by
  unfold State.resetWithClock; simp only; split <;> rfl
@[simp] theorem State.resetWithClock_ctrl (q : Option Nat) : (s.resetWithClock q).ctrl = s.ctrl := by
  unfold State.resetWithClock; simp only; split <;> rfl
@[simp] theorem State.resetWithClock_status (q : Option Nat) : (s.resetWithClock q).status = s.status := by
  unfold State.resetWithClock; simp only; split <;> rfl
@[simp] theorem State.resetWithClock_ind (q : Option Nat) : (s.resetWithClock q).ind = s.ind := by
  unfold State.resetWithClock; simp only; split <;> rfl
@[simp] theorem State.resetWithClock_selSeq (q : Option Nat) : (s.resetWithClock q).selSeq = s.selSeq := by
  unfold State.resetWithClock; simp only; split <;> rfl
@[simp] theorem State.resetWithClock_pending (q : Option Nat) : (s.resetWithClock q).pending = s.pending := by
  unfold State.resetWithClock; simp only; split <;> rfl
@[simp] theorem State.resetWithClock_phy (q : Option Nat) : (s.resetWithClock q).phy = s.phy := by
  unfold State.resetWithClock; simp only; split <;> rfl
@[simp] theorem State.resetWithClock_lineFault (q : Option Nat) : (s.resetWithClock q).lineFault = s.lineFault := by
  unfold State.resetWithClock; simp only; split <;> rfl
@[simp] theorem State.resetWithClock_countdown (q : Option Nat) : (s.resetWithClock q).countdown = s.countdown := by
  unfold State.resetWithClock; simp only; split <;> rfl
@[simp] theorem State.resetWithClock_requests (q : Option Nat) : (s.resetWithClock q).requests = s.requests := by
  unfold State.resetWithClock; simp only; split <;> rfl
@[simp] theorem State.resetWithClock_clkAnswers (q : Option Nat) : (s.resetWithClock q).clkAnswers = s.clkAnswers := by
  unfold State.resetWithClock; simp only; split <;> rfl
@[simp] theorem State.resetWithClock_draws (q : Option Nat) : (s.resetWithClock q).draws = s.draws := by
  unfold State.resetWithClock; simp only; split <;> rfl
@[simp] theorem State.resetWithClock_turns (q : Option Nat) : (s.resetWithClock q).turns = s.turns := by
  unfold State.resetWithClock; simp only; split <;> rfl
@[simp] theorem State.resetWithClock_drawn (q : Option Nat) : (s.resetWithClock q).drawn = s.drawn := by
  unfold State.resetWithClock; simp only; split <;> rfl
@[simp] theorem State.resetWithClock_refRate (q : Option Nat) : (s.resetWithClock q).refRate = q := by
  unfold State.resetWithClock; simp only; split <;> rfl

/-- What a micro-step of `reset` does (R154). -/
def State.resetNext (s : State) (pos : ResetPos) : State :=
  match pos with
  | .query => s.clkQuery.2.resetWithClock s.clkQuery.1
  | .assert d =>
    (s.wrote .cfg .mdiowin s.cfg.cfgOff (BitVec.ofNat 32 d ||| s.cfg.resetBit)).goTo (.reset (.settleAsserted d))
  | .settleAsserted d => (s.delay s.cfg.resetSettleUs).goTo (.reset (.release d))
  | .release d => (s.wrote .cfg .mdiowin s.cfg.cfgOff (BitVec.ofNat 32 d)).goTo (.reset .settleReleased)
  | .settleReleased => (s.delay s.cfg.resetSettleUs).markReset.answerMdc .ok

theorem State.resetStep_eq (h : s.cfg.Valid) (pos : ResetPos) : s.resetStep pos = .ok (s.resetNext pos) := by
  cases pos with
  | query => rfl
  | assert d => exact State.storeThen_eq _ _ h.regAt_cfg (by decide) (by decide)
  | settleAsserted d => rfl
  | release d => exact State.storeThen_eq _ _ h.regAt_cfg (by decide) (by decide)
  | settleReleased => rfl

/-- What a micro-step of `wait_not_busy` does (R156). -/
def State.waitOpNext (s : State) (pos : WaitPos) : State :=
  s.waitNext pos .waitNotBusy (fun t => t.answerMdc .ok) fun t => t.answerMdc (.error .timeout)

theorem State.waitOpStep_eq (h : s.cfg.Valid) (pos : WaitPos) : s.waitOpStep pos = .ok (s.waitOpNext pos) :=
  State.waitThen_eq h _ _ _ _

/-- What a micro-step of `read` does (R158, R159). -/
def State.readNext (s : State) (a r : Half) (pos : ReadPos) : State :=
  match pos with
  | .firstWait w =>
    s.waitNext w (fun q => .read a r (.firstWait q)) (fun t => t.goTo (.read a r .storeIdle))
      fun t => t.answerMdc (.error .timeout)
  | .storeIdle => (s.wrote .cmd .mdiowin s.cfg.cmdOff s.cfg.cmdWrite).goTo (.read a r .storeAddr)
  | .storeAddr => (s.wrote .addr .mdiowin s.cfg.addrOff (packAddr a r)).goTo (.read a r .storeRead)
  | .storeRead =>
    (s.wrote .cmd .mdiowin s.cfg.cmdOff s.cfg.cmdRead).goTo (.read a r (.secondWait (Config.fullWait s.cfg)))
  | .secondWait w =>
    s.waitNext w (fun q => .read a r (.secondWait q)) (fun t => t.goTo (.read a r .loadStatus))
      fun t => t.goTo (.read a r .abort)
  | .abort => (s.wrote .cmd .mdiowin s.cfg.cmdOff s.cfg.cmdWrite).answerMdc (.error .timeout)
  | .loadStatus =>
    (s.loaded .status .mdiowin s.cfg.statusOff).goTo (.read a r (.storeBack (dataField (s.lineLoad .status).1)))
  | .storeBack v =>
    ((s.wrote .cmd .mdiowin s.cfg.cmdOff s.cfg.cmdWrite).record (.log (maskOctet a) (maskOctet r) v)).answerMdc
      (.okValue v.toNat)

theorem State.readStep_eq (h : s.cfg.Valid) (a r : Half) (pos : ReadPos) :
    s.readStep a r pos = .ok (s.readNext a r pos) := by
  cases pos with
  | firstWait w => exact State.waitThen_eq h _ _ _ _
  | storeIdle => exact State.storeThen_eq _ _ h.regAt_cmd (by decide) (by decide)
  | storeAddr => exact State.storeThen_eq _ _ h.regAt_addr (by decide) (by decide)
  | storeRead =>
    simp only [State.readStep, State.readNext]
    rw [State.storeThen_eq _ _ h.regAt_cmd (by decide) (by decide)]
    simp
  | secondWait w => exact State.waitThen_eq h _ _ _ _
  | abort => exact State.storeThen_eq _ _ h.regAt_cmd (by decide) (by decide)
  | loadStatus =>
    simp only [State.readStep, State.readNext, State.regRead_eq h.regAt_status]
  | storeBack v => exact State.storeThen_eq _ _ h.regAt_cmd (by decide) (by decide)

/-- What a micro-step of `write` does (R161). -/
def State.writeNext (s : State) (a r v : Half) (pos : WritePos) : State :=
  match pos with
  | .storeAddr => (s.wrote .addr .mdiowin s.cfg.addrOff (packAddr a r)).goTo (.write a r v .storeCtrl)
  | .storeCtrl =>
    ((s.wrote .ctrl .mdiowin s.cfg.ctrlOff (zextWord v)).record (.log (maskOctet a) (maskOctet r) v)).goTo
      (.write a r v (.finalWait (Config.fullWait s.cfg)))
  | .finalWait w =>
    s.waitNext w (fun q => .write a r v (.finalWait q)) (fun t => t.answerMdc .ok)
      fun t => t.answerMdc (.error .timeout)

theorem State.writeStep_eq (h : s.cfg.Valid) (a r v : Half) (pos : WritePos) :
    s.writeStep a r v pos = .ok (s.writeNext a r v pos) := by
  cases pos with
  | storeAddr => exact State.storeThen_eq _ _ h.regAt_addr (by decide) (by decide)
  | storeCtrl =>
    simp only [State.writeStep, State.writeNext]
    rw [State.storeThen_eq _ _ h.regAt_ctrl (by decide) (by decide)]
    simp
  | finalWait w => exact State.waitThen_eq h _ _ _ _

/-- One equation for all of them: the next micro-step of whatever is open. -/
def State.mdcNext (s : State) : State :=
  match s.mdioSeq with
  | .idle => s
  | .reset pos => s.resetNext pos
  | .waitNotBusy pos => s.waitOpNext pos
  | .read a r pos => s.readNext a r pos
  | .write a r v pos => s.writeNext a r v pos

/-- An open operation makes its next micro-step: no fault, no refusal. -/
theorem exec_open (h : s.cfg.Valid) {i : Instr} (hi : s.mdioSeq.instr = some i) : exec i s = .next s.mdcNext := by
  cases hm : s.mdioSeq with
  | idle => rw [hm] at hi; cases hi
  | reset pos =>
    rw [hm] at hi; cases hi
    simp only [exec, execReset, hm, State.resetStep_eq h, answerOf, State.mdcNext]
  | waitNotBusy pos =>
    rw [hm] at hi; cases hi
    simp only [exec, execWaitNotBusy, hm, State.waitOpStep_eq h, answerOf, State.mdcNext]
  | read a r pos =>
    rw [hm] at hi; cases hi
    simp only [exec, execRead, hm, State.readStep_eq h, answerOf, State.mdcNext, and_self, if_true]
  | write a r v pos =>
    rw [hm] at hi; cases hi
    simp only [exec, execWrite, hm, State.writeStep_eq h, answerOf, State.mdcNext, and_self, if_true]

/-- The first micro-step of an MDIO operation whose request has just been accepted; `compute_divider` has no other. -/
def State.mdcStart (s : State) (i : Instr) : State :=
  match i with
  | .computeDivider =>
    match s.cfg.divider s.refRate with
    | none => (s.openMdc i .idle).answerMdc (.error .hardwareFault)
    | some d => (s.openMdc i .idle).answerMdc (.okValue d)
  | _ => (s.openMdc i (firstPos s.cfg i)).mdcNext

/-- With the sequencer idle a request is accepted and makes its first micro-step: no fault, no refusal. -/
theorem exec_start (h : s.cfg.Valid) (hm : s.mdioSeq = .idle) {i : Instr} (hi : componentOf i = .mdc) :
    exec i s = .next (s.mdcStart i) := by
  have hv : ∀ (j : Instr) (q : MdioSeq), (s.openMdc j q).cfg.Valid := fun j q => h
  cases i with
  | setInterfaceMode p m => cases hi
  | setLinkSpeed p v => cases hi
  | computeDivider =>
    simp only [exec, execComputeDivider, hm, State.mdcStart]
    cases s.cfg.divider s.refRate <;> rfl
  | reset => simp only [exec, execReset, hm, State.resetStep_eq (hv _ _), answerOf]; rfl
  | waitNotBusy => simp only [exec, execWaitNotBusy, hm, State.waitOpStep_eq (hv _ _), answerOf]; rfl
  | read a r => simp only [exec, execRead, hm, State.readStep_eq (hv _ _), answerOf]; rfl
  | write a r v => simp only [exec, execWrite, hm, State.writeStep_eq (hv _ _), answerOf]; rfl

/-- An MDIO operation answers a next state exactly when the sequencer is idle or the operation is the open one. -/
theorem exec_mdc_cases (h : s.cfg.Valid) {i : Instr} (hi : componentOf i = .mdc) {t : State}
    (hx : exec i s = .next t) :
    (s.mdioSeq = .idle ∧ t = s.mdcStart i) ∨ (s.mdioSeq.instr = some i ∧ t = s.mdcNext) := by
  by_cases hm : s.mdioSeq = .idle
  · rw [exec_start h hm hi] at hx
    exact .inl ⟨hm, (Host.Outcome.next.inj hx).symm⟩
  · by_cases ho : s.mdioSeq.instr = some i
    · rw [exec_open h ho] at hx
      exact .inr ⟨ho, (Host.Outcome.next.inj hx).symm⟩
    · exfalso
      cases hs : s.mdioSeq <;> cases i <;>
        simp_all [exec, execComputeDivider, execReset, execWaitNotBusy, execRead, execWrite, MdioSeq.instr,
          componentOf]
      · split at hx
        · simp_all
        · cases hx
      · split at hx
        · simp_all
        · cases hx

end Sys2Proof.Machine
end

