-- ==== Sys2Proof/Laws/Memory.lean ====
section
/-! SUPPORT. The laws of `line.phy` (10_state.md R38): a read after a write to the same cell gives the value written, a
write leaves every other cell alone and keeps the canonical form. -/

namespace Sys2Proof.Machine

theorem cellNumber_lt (a r : Octet) : cellNumber a r < 65536 := by
  unfold cellNumber
  have := a.isLt
  have := r.isLt
  omega

theorem cellNumber_inj {a r a' r' : Octet} (h : cellNumber a r = cellNumber a' r') : a = a' ∧ r = r' := by
  unfold cellNumber at h
  have := r.isLt
  have := r'.isLt
  exact ⟨BitVec.eq_of_toNat_eq (by omega), BitVec.eq_of_toNat_eq (by omega)⟩

/-- A larger bound is a weaker one. -/
theorem Memory.wfFrom_mono {lo lo' : Nat} (h : lo' ≤ lo) {m : Memory} (hm : Memory.wfFrom lo m = true) :
    Memory.wfFrom lo' m = true := by
  cases m with
  | nil => rfl
  | cons c rest =>
    simp only [Memory.wfFrom, Bool.and_eq_true, decide_eq_true_eq] at hm ⊢
    exact ⟨⟨⟨by omega, hm.1.1.2⟩, hm.1.2⟩, hm.2⟩

/-- A cell below every listed one is not listed. -/
theorem Memory.read_of_wfFrom {lo n : Nat} (h : n < lo) {m : Memory} (hm : Memory.wfFrom lo m = true) :
    m.read n = Memory.unlisted := by
  induction m generalizing lo with
  | nil => rfl
  | cons c rest ih =>
    simp only [Memory.wfFrom, Bool.and_eq_true, decide_eq_true_eq] at hm
    simp only [Memory.read]
    rw [if_neg (by omega)]
    exact ih (by omega) hm.2

theorem Memory.read_cell_append_self (n : Nat) (v : Half) {m : Memory} (hm : m.read n = Memory.unlisted) :
    Memory.read (Memory.cell n v ++ m) n = v := by
  unfold Memory.cell
  split
  · simp_all
  · simp [Memory.read]

theorem Memory.read_cell_append_other {n k : Nat} (h : k ≠ n) (v : Half) (m : Memory) :
    Memory.read (Memory.cell n v ++ m) k = m.read k := by
  unfold Memory.cell
  split
  · rfl
  · simp [Memory.read, Ne.symm h]

/-- A write leaves every other cell alone. -/
theorem Memory.read_write_other {n k : Nat} (h : k ≠ n) (m : Memory) (v : Half) :
    (Memory.write m n v).read k = m.read k := by
  induction m with
  | nil => simpa [Memory.write] using Memory.read_cell_append_other h v []
  | cons c rest ih =>
    simp only [Memory.write]
    split
    · exact Memory.read_cell_append_other h v _
    · split
      · rename_i h2
        rw [Memory.read_cell_append_other h]
        simp only [Memory.read]
        rw [if_neg (by omega)]
      · simp only [Memory.read, ih]

/-- A read of the cell just written gives the value written. -/
theorem Memory.read_write_self {lo n : Nat} {m : Memory} (hm : Memory.wfFrom lo m = true) (v : Half) :
    (Memory.write m n v).read n = v := by
  induction m generalizing lo with
  | nil => simpa [Memory.write] using Memory.read_cell_append_self n v (m := []) rfl
  | cons c rest ih =>
    have hw := hm
    simp only [Memory.wfFrom, Bool.and_eq_true, decide_eq_true_eq] at hm
    simp only [Memory.write]
    split
    · refine Memory.read_cell_append_self n v ?_
      simp only [Memory.read]
      rw [if_neg (by omega)]
      exact Memory.read_of_wfFrom (by omega) hm.2
    · split
      · exact Memory.read_cell_append_self n v (Memory.read_of_wfFrom (by omega) hm.2)
      · simp only [Memory.read]
        rw [if_neg (by omega)]
        exact ih hm.2

theorem Memory.wfFrom_cell_append {lo n : Nat} (hlo : lo ≤ n) (hn : n < 65536) (v : Half) {m : Memory}
    (hm : Memory.wfFrom (n + 1) m = true) : Memory.wfFrom lo (Memory.cell n v ++ m) = true := by
  unfold Memory.cell
  split
  · exact Memory.wfFrom_mono (by omega) hm
  · simp only [List.cons_append, List.nil_append, Memory.wfFrom, Bool.and_eq_true, decide_eq_true_eq, bne_iff_ne]
    exact ⟨⟨⟨hlo, hn⟩, by assumption⟩, hm⟩

/-- A write keeps the canonical form. -/
theorem Memory.wfFrom_write {lo n : Nat} (hlo : lo ≤ n) (hn : n < 65536) {m : Memory}
    (hm : Memory.wfFrom lo m = true) (v : Half) : Memory.wfFrom lo (Memory.write m n v) = true := by
  induction m generalizing lo with
  | nil => simpa [Memory.write] using Memory.wfFrom_cell_append hlo hn v (m := []) rfl
  | cons c rest ih =>
    have hw := hm
    simp only [Memory.wfFrom, Bool.and_eq_true, decide_eq_true_eq] at hm
    simp only [Memory.write]
    split
    · refine Memory.wfFrom_cell_append hlo hn v ?_
      simp only [Memory.wfFrom, Bool.and_eq_true, decide_eq_true_eq]
      exact ⟨⟨⟨by omega, hm.1.1.2⟩, hm.1.2⟩, hm.2⟩
    · split
      · rename_i h2
        exact Memory.wfFrom_cell_append hlo hn v (h2 ▸ hm.2)
      · simp only [Memory.wfFrom, Bool.and_eq_true, decide_eq_true_eq]
        exact ⟨⟨⟨hm.1.1.1, hm.1.1.2⟩, hm.1.2⟩, ih (by omega) hm.2⟩

/-- Every write to a PHY cell keeps the canonical form. -/
theorem Memory.wf_write {m : Memory} (hm : m.wf = true) (a r : Octet) (v : Half) :
    (Memory.write m (cellNumber a r) v).wf = true :=
  Memory.wfFrom_write (Nat.zero_le _) (cellNumber_lt a r) hm v

/-- LINE's completion step keeps the canonical form; it is the only thing that changes `line.phy` (R195). -/
theorem State.completeCycle_wf {s : State} (h : s.phy.wf = true) : s.completeCycle.phy.wf = true := by
  unfold State.completeCycle
  split
  · exact h
  · exact h
  · exact Memory.wf_write h _ _ _

/-- `State.reset` has memory in canonical form. -/
theorem State.reset_wf : State.reset.phy.wf = true := by decide

end Sys2Proof.Machine
end

