-- ==== Sys2Proof/Laws/PerInstr.lean ====
section
/-! SUPPORT. Per operation: its request word lies in its own row of spec/opcode_table.json (30_encoding.md R91, R92). -/

namespace Sys2Proof.Laws.TableRow

/-- The `mask` of the operation's row of spec/opcode_table.json. -/
def mask : Instr → RequestWord
  | .setInterfaceMode _ _ => 0xFFFF00000000FFFF#64
  | .setLinkSpeed _ _ => 0xFFFF00000000FFFF#64
  | .computeDivider => 0xFFFFFFFFFFFFFFFF#64
  | .reset => 0xFFFFFFFFFFFFFFFF#64
  | .waitNotBusy => 0xFFFFFFFFFFFFFFFF#64
  | .read _ _ => 0xFFFF00000000FFFF#64
  | .write _ _ _ => 0xFFFF000000000000#64

/-- The `match` of the operation's row. -/
def pattern : Instr → RequestWord
  | .setInterfaceMode _ _ => 0x0100000000000000#64
  | .setLinkSpeed _ _ => 0x0200000000000000#64
  | .computeDivider => 0x1000000000000000#64
  | .reset => 0x1100000000000000#64
  | .waitNotBusy => 0x1200000000000000#64
  | .read _ _ => 0x1300000000000000#64
  | .write _ _ _ => 0x1400000000000000#64

/-- The operation's request word agrees with its row in every bit the mask selects. -/
def Statement (i : Instr) : Prop := encode i &&& mask i = pattern i

/-- The masks that leave the fields A and B free. -/
theorem packQ_and_ab (o : Octet) (a b : Half) :
    packQ o a b 0#16 &&& 0xFFFF00000000FFFF#64 = packQ o 0#16 0#16 0#16 := by
  have h1 : opcField 0xFFFF00000000FFFF#64 = BitVec.allOnes 8 := by decide
  have h2 : aField 0xFFFF00000000FFFF#64 = 0#16 := by decide
  have h3 : bField 0xFFFF00000000FFFF#64 = 0#16 := by decide
  have h4 : cField 0xFFFF00000000FFFF#64 = BitVec.allOnes 16 := by decide
  rw [packQ_and, h1, h2, h3, h4]
  simp only [BitVec.and_allOnes, BitVec.and_zero]

theorem setInterfaceMode (p : Half) (m : ModeOperand) : Statement (.setInterfaceMode p m) :=
  packQ_and_ab 0x01#8 p (fieldOfMode m)

theorem setLinkSpeed (p v : Half) : Statement (.setLinkSpeed p v) := packQ_and_ab 0x02#8 p v

theorem computeDivider : Statement .computeDivider := by unfold Statement; decide

theorem reset : Statement .reset := by unfold Statement; decide

theorem waitNotBusy : Statement .waitNotBusy := by unfold Statement; decide

theorem read (a r : Half) : Statement (.read a r) := packQ_and_ab 0x13#8 a r

theorem write (a r v : Half) : Statement (.write a r v) := by
  have h1 : opcField 0xFFFF000000000000#64 = BitVec.allOnes 8 := by decide
  have h2 : aField 0xFFFF000000000000#64 = 0#16 := by decide
  have h3 : bField 0xFFFF000000000000#64 = 0#16 := by decide
  have h4 : cField 0xFFFF000000000000#64 = 0#16 := by decide
  change packQ 0x14#8 a r v &&& 0xFFFF000000000000#64 = packQ 0x14#8 0#16 0#16 0#16
  rw [packQ_and, h1, h2, h3, h4]
  simp only [BitVec.and_allOnes, BitVec.and_zero]

end Sys2Proof.Laws.TableRow
end

