-- ==== Sys2Proof/Laws/Selector.lean ====
section
/-! SUPPORT. Under a valid configuration a selector operation ends in a state, written here without faults
(40_interface_selector.md R120 to R122). -/

namespace Sys2Proof.Machine

variable {s : State}

/-- The register of port `p`. -/
def portReg (p : Nat) : Reg := if p = 0 then .miictrl0 else .miictrl1

theorem regAt_portOffset {c : Config} (h : c.Valid) {p : Nat} (hp : p < c.portCount) :
    c.regAt .selwin (c.portOffset p) = some (portReg p) := by
  have h1 := h.1.1
  obtain rfl | rfl : p = 0 ∨ p = 1 := by omega
  · exact h.regAt_port0
  · exact h.regAt_port1 hp

theorem State.readReg_portReg (s : State) (p : Nat) : s.readReg (portReg p) = s.portWord p := by
  unfold portReg State.portWord
  split <;> rfl

theorem portReg_ne_status (p : Nat) : portReg p ≠ .status := by unfold portReg; split <;> decide

theorem portReg_ne_ind (p : Nat) : portReg p ≠ .ind := by unfold portReg; split <;> decide

/-- The load of a port's word. -/
theorem State.loaded_portReg (s : State) (p off : Nat) :
    s.loaded (portReg p) .selwin off = s.record (.ld .selwin off (s.portWord p)) := by
  rw [State.loaded_other (portReg_ne_status p) (portReg_ne_ind p), State.readReg_portReg]

/-- What a selector operation does (R122): nothing but a response when the port bound fails; a load and a response when
a later check fails; else a load, one store with its read-back, and a response. -/
def State.selectorNext (s : State) (p : Nat) (newWord : Word → Option Word) : State :=
  if s.cfg.portCount ≤ p then s.answerSel (.error .invalidArgument)
  else
    match newWord (s.portWord p) with
    | none => (s.loaded (portReg p) .selwin (s.cfg.portOffset p)).answerSel (.error .invalidArgument)
    | some v =>
      ((s.loaded (portReg p) .selwin (s.cfg.portOffset p)).wrote (portReg p) .selwin (s.cfg.portOffset p) v).answerSel .ok

theorem State.selectorOp_eq (h : s.cfg.Valid) (p : Nat) (newWord : Word → Option Word) :
    s.selectorOp p newWord = .ok (s.selectorNext p newWord) := by
  unfold State.selectorOp State.selectorNext
  split
  · rfl
  · rename_i hp
    have hr := regAt_portOffset h (Nat.lt_of_not_le hp)
    rw [State.regRead_eq hr, State.lineLoad_other (portReg_ne_status p) (portReg_ne_ind p), State.readReg_portReg]
    have hr' : (s.loaded (portReg p) .selwin (s.cfg.portOffset p)).cfg.regAt .selwin (s.cfg.portOffset p) =
        some (portReg p) := by simpa using hr
    cases hw : newWord (s.portWord p) with
    | none => simp only [hw]
    | some v =>
      simp only [hw, State.loaded_cfg, State.regWrite_eq v hr' (portReg_ne_status p) (portReg_ne_ind p)]

theorem exec_setInterfaceMode (h : s.cfg.Valid) (hs : s.selSeq = .idle) (p : Half) (m : ModeOperand) :
    exec (.setInterfaceMode p m) s =
      .next ((s.openSel (.setInterfaceMode p m)).selectorNext p.toNat (s.cfg.modeWord p.toNat m)) := by
  have hv : (s.openSel (.setInterfaceMode p m)).cfg.Valid := h
  simp only [exec, execSetInterfaceMode, hs, State.selectorOp_eq hv, answerOf]

theorem exec_setLinkSpeed (h : s.cfg.Valid) (hs : s.selSeq = .idle) (p v : Half) :
    exec (.setLinkSpeed p v) s =
      .next ((s.openSel (.setLinkSpeed p v)).selectorNext p.toNat (s.cfg.linkWord p.toNat v)) := by
  have hv : (s.openSel (.setLinkSpeed p v)).cfg.Valid := h
  simp only [exec, execSetLinkSpeed, hs, State.selectorOp_eq hv, answerOf]

/-- A selector operation answers a next state exactly when its sequencer is idle. -/
theorem exec_sel_idle {i : Instr} (hi : componentOf i = .sel) {t : State} (hx : exec i s = .next t) :
    s.selSeq = .idle := by
  cases hs : s.selSeq with
  | idle => rfl
  | running => cases i <;> simp_all [exec, execSetInterfaceMode, execSetLinkSpeed, componentOf]

/-- What a selector operation leaves alone, whatever it answers: everything but the two port words, its sequencer
position and the history. -/
theorem State.selectorNext_frame (s : State) (p : Nat) (f : Word → Option Word) :
    s.selectorNext p f =
      { s with
        miictrl0 := (s.selectorNext p f).miictrl0
        miictrl1 := (s.selectorNext p f).miictrl1
        selSeq := .idle
        history := (s.selectorNext p f).history } := by
  unfold State.selectorNext
  split
  · rfl
  · rw [State.loaded_portReg]
    split
    · rfl
    · unfold portReg
      split
      · rw [State.wrote_miictrl0]; rfl
      · rw [State.wrote_miictrl1]; rfl

end Sys2Proof.Machine
end

