-- ==== Sys2Proof/Laws/Step.lean ====
section
/-! SUPPORT. What one step of the machine can be, said once (00_scope.md R18): LINE's opportunity, then nothing, the
answer to an illegal word, or one step of an operation. Every invariant is a case analysis over `step_cases`. -/

namespace Sys2Proof.Machine

variable {s t : State}

/-- One step of a valid configuration is the turn after LINE's opportunity. -/
theorem step_valid (hv : s.cfg.Valid) : step s =
    match s.lineTurn.turn with
    | .run i u => exec i u
    | .done u => .next u
    | .refuse r => .refused r := if_pos hv

/-- The turn of a state: which requests are left, and what is done. -/
theorem State.turn_cases (s : State) :
    ∃ rs, (s.turn = .done { s with requests := rs } ∧ s.mdioSeq = .idle) ∨
      (∃ w, s.turn = .done ({ s with requests := rs }.answerIllegal w)) ∨
      (∃ i, s.turn = .run i { s with requests := rs } ∧ s.mdioSeq = .idle) ∨
      (∃ i, s.turn = .run i { s with requests := rs } ∧ componentOf i = .sel) ∨
      (∃ i, s.turn = .run i { s with requests := rs } ∧ s.mdioSeq.instr = some i) ∨
      s.turn = .refuse (.componentBusy .mdc) := by
  have hgo : ∀ u : State, u.mdioSeq = s.mdioSeq →
      (u.goOn = .done u ∧ s.mdioSeq = .idle) ∨ ∃ i, u.goOn = .run i u ∧ s.mdioSeq.instr = some i := by
    intro u hu
    unfold State.goOn
    rw [hu]
    cases hm : s.mdioSeq <;> simp [MdioSeq.instr]
  have hiss : ∀ (u : State) (w : RequestWord), u.mdioSeq = s.mdioSeq →
      (∃ w', u.issue w = .done (u.answerIllegal w')) ∨
        (∃ i, u.issue w = .run i u ∧ (s.mdioSeq = .idle ∨ componentOf i = .sel)) ∨
        u.issue w = .refuse (.componentBusy .mdc) := by
    intro u w hu
    unfold State.issue
    cases hd : decode w with
    | illegal why => exact .inl ⟨w, by simp⟩
    | op i =>
      simp only [hu]
      split
      · exact .inr (.inr (by simp))
      · rename_i hn
        refine .inr (.inl ⟨i, by simp, ?_⟩)
        cases hc : componentOf i with
        | sel => exact .inr rfl
        | mdc => exact .inl (by simpa [hc] using hn)
  unfold State.turn
  split
  · rename_i hr
    refine ⟨[], ?_⟩
    have : { s with requests := [] } = s := by rw [← hr]
    rw [this]
    obtain h | h := hgo s rfl
    · exact .inl h
    · exact .inr (.inr (.inr (.inr (.inl h))))
  · rename_i q qs hr
    split
    · split
      · refine ⟨qs, ?_⟩
        obtain h | ⟨i, h, h1 | h1⟩ | h := hiss { s with requests := qs } q.word rfl
        · exact .inr (.inl h)
        · exact .inr (.inr (.inl ⟨i, h, h1⟩))
        · exact .inr (.inr (.inr (.inl ⟨i, h, h1⟩)))
        · exact .inr (.inr (.inr (.inr (.inr h))))
      · refine ⟨s.requests, ?_⟩
        obtain h | h := hgo s rfl
        · exact .inl h
        · exact .inr (.inr (.inr (.inr (.inl h))))
    · refine ⟨qs, ?_⟩
      obtain h | ⟨i, h, h1 | h1⟩ | h := hiss { s with requests := qs } q.word rfl
      · exact .inr (.inl h)
      · exact .inr (.inr (.inl ⟨i, h, h1⟩))
      · exact .inr (.inr (.inr (.inl ⟨i, h, h1⟩)))
      · exact .inr (.inr (.inr (.inr (.inr h))))
    · rename_i n _
      refine ⟨{ q with overlap := some n } :: qs, ?_⟩
      obtain h | h := hgo { s with requests := { q with overlap := some n } :: qs } rfl
      · exact .inl h
      · exact .inr (.inr (.inr (.inr (.inl h))))

/-- Everything a step that answers a next state can be. `u` is the state after LINE's opportunity, with the requests
that are left. -/
theorem step_cases (h : step s = .next t) :
    s.cfg.Valid ∧ ∃ u : State, (∃ rs, u = { s.lineTurn with requests := rs }) ∧
      ((t = u ∧ u.mdioSeq = .idle) ∨
        (∃ w, t = u.answerIllegal w) ∨
        (∃ i, componentOf i = .sel ∧ exec i u = .next t) ∨
        (∃ i, componentOf i = .mdc ∧ u.mdioSeq = .idle ∧ t = u.mdcStart i) ∨
        (u.mdioSeq ≠ .idle ∧ t = u.mdcNext)) := by
  unfold step at h
  split at h
  · rename_i hv
    refine ⟨hv, ?_⟩
    obtain ⟨rs, hc⟩ := s.lineTurn.turn_cases
    have hv' : ({ s.lineTurn with requests := rs } : State).cfg.Valid := by simpa using hv
    refine ⟨{ s.lineTurn with requests := rs }, ⟨rs, rfl⟩, ?_⟩
    obtain ⟨h1, h2⟩ | ⟨w, h1⟩ | ⟨i, h1, h2⟩ | ⟨i, h1, h2⟩ | ⟨i, h1, h2⟩ | h1 := hc <;> rw [h1] at h
    · exact .inl ⟨(Host.Outcome.next.inj h).symm, h2⟩
    · exact .inr (.inl ⟨w, (Host.Outcome.next.inj h).symm⟩)
    · cases hc : componentOf i with
      | sel => exact .inr (.inr (.inl ⟨i, hc, h⟩))
      | mdc =>
        refine .inr (.inr (.inr (.inl ⟨i, hc, h2, ?_⟩)))
        simp only at h
        rw [exec_start hv' h2 hc] at h
        exact (Host.Outcome.next.inj h).symm
    · exact .inr (.inr (.inl ⟨i, h2, h⟩))
    · refine .inr (.inr (.inr (.inr ⟨?_, ?_⟩)))
      · intro h3
        simp only at h3
        rw [h3] at h2
        cases h2
      · simp only at h
        rw [exec_open hv' h2] at h
        exact (Host.Outcome.next.inj h).symm
    · simp only at h
      cases h
  · cases h

end Sys2Proof.Machine
end

