-- ==== Sys2Proof/Tests/Slice0.lean ====
section
/-! SUPPORT. Tests of one step each, with expected results taken from 95_test_vectors.md, and one witness for the
hypotheses of every statement that has some. -/

namespace Sys2Proof.Tests

open Sys2Proof Sys2Proof.Machine

/-! ## Small states -/

/-- The next state of an answer, if it has one. -/
def nextOf : Answer → Option State
  | .next s => some s
  | .fault _ => none
  | .refused _ => none

/-- REFCFG, SimPHY(2), a successful `reset` behind it, with the open operation given. -/
def at_ (q : MdioSeq) : State := { State.reset with resetDone := true, mdioSeq := q }

/-- The same on another line level. -/
def on (l : LineLevel) (q : MdioSeq) : State := { at_ q with level := l }

/-- `State.reset` with the word of both ports given. -/
def ports (w0 w1 : Word) : State := { State.reset with miictrl0 := w0, miictrl1 := w1 }

/-- As `at_`, with a cycle in flight and the busy bit set. -/
def busy (l : LineLevel) (c : Cycle) (n : Nat) (q : MdioSeq) : State :=
  { at_ q with level := l, pending := some c, ind := 1#32, countdown := n }

/-- As `at_`, before the first successful `reset`. -/
def early (q : MdioSeq) : State := { at_ q with resetDone := false }

/-- As `at_`, with requests still to be issued. -/
def asked (rs : List Request) (q : MdioSeq) : State := { at_ q with requests := rs }

/-- The history of a next state, if there is one. -/
def historyOf (a : Answer) : Option (List Event) := (nextOf a).map State.history

/-! ## WellFormed (R94, R101) -/

theorem test_wf_unnamed_mode_2_is_ill_formed : (Instr.setInterfaceMode 0#16 (.unnamed 2#16)).wf = false := by decide
theorem test_wf_unnamed_mode_3_is_ill_formed : (Instr.setInterfaceMode 0#16 (.unnamed 3#16)).wf = false := by decide
theorem test_wf_unnamed_mode_4 : (Instr.setInterfaceMode 0#16 (.unnamed 4#16)).wf = true := by decide

/-! ## Words written out from R91 and R92: OPC, Z, A, B, C -/

theorem test_decode_set_interface_mode :
    decode 0x0100000100010000#64 = .op (.setInterfaceMode 1#16 (.named .mii)) := by decide
theorem test_decode_set_link_speed :
    decode 0x0200000103E80000#64 = .op (.setLinkSpeed 1#16 1000#16) := by decide
theorem test_decode_compute_divider : decode 0x1000000000000000#64 = .op .computeDivider := by decide
theorem test_decode_reset : decode 0x1100000000000000#64 = .op .reset := by decide
theorem test_decode_wait_not_busy : decode 0x1200000000000000#64 = .op .waitNotBusy := by decide
theorem test_decode_read : decode 0x1300000400020000#64 = .op (.read 4#16 2#16) := by decide
theorem test_decode_write : decode 0x140000040002BEEF#64 = .op (.write 4#16 2#16 0xBEEF#16) := by decide
theorem test_decode_unused_field : decode 0x1300000400020001#64 = .illegal .nonzeroUnused := by decide
theorem test_decode_z_field : decode 0x1401000400020001#64 = .illegal .nonzeroZ := by decide
theorem test_decode_opcode_3 : decode 0x0300000000000000#64 = .illegal .unknownOpcode := by decide
theorem test_table_word : decodeTableWord 64 0x1300000000000000 = some (.read 0#16 0#16) := by decide
theorem test_fetch_word_runs :
    historyOf (step (State.reset.withFetchWord 64 0x1000000000000000)) =
      some [.req .computeDivider, .resp (some .mdc) (.error .hardwareFault)] := by decide

/-- The textual form of R101, printed and read. -/
theorem test_text :
    (Instr.setInterfaceMode 0#16 (.unnamed 9#16)).text = "set_interface_mode(0, mode#9)".toList ∧
    parseLine "read(0x0123, 511) -> OK(4660)".toList = some (.read 0x0123#16 511#16) ∧
    parseLine "set_interface_mode(0, mode#3)".toList = none := by decide

/-- R96 with the codes of R211: V3.1's OK(16), a Timeout; and a table whose last entry has no binary form. -/
theorem test_response_words :
    (Result.okValue 16).word = some 0x00000010#32 ∧ (Result.error .timeout).word = some 0x00020000#32 ∧
      (Config.refcfg.responseWord (.okValue 16)).toOption = some 0x00000010#32 ∧
      (({ Config.refcfg with dividerTable := [2, 70000] } : Config).responseWord (.okValue 2)).toOption = none := by decide

/-! ## InterfaceSelector -/

/-- V1.11: port 1, RMII: the code folds to 1, the speed is clamped. -/
theorem test_set_interface_mode_V1_11 :
    (nextOf (exec (.setInterfaceMode 1#16 (.named .rmii)) (ports 0#32 0x20#32))).map State.miictrl1 =
      some 0x11#32 := by decide
/-- V1.5: the other bits are cleared, the reserved speed code 3 is carried over. -/
theorem test_set_interface_mode_V1_5 :
    (nextOf (exec (.setInterfaceMode 0#16 (.named .gmii)) (ports 0xFFFFFFFF#32 0#32))).map State.miictrl0 =
      some 0x30#32 := by decide
/-- V2.1: 10 Mbps stores code 0 and nothing of code 1. -/
theorem test_set_link_speed_V2_1 :
    (nextOf (exec (.setLinkSpeed 0#16 10#16) (ports 0x13#32 0#32))).map State.miictrl0 = some 0x03#32 := by decide
/-- V2.11: 1000 Mbps on port 1 while the stored bit is 1: one load, no store. -/
theorem test_set_link_speed_V2_11 :
    historyOf (exec (.setLinkSpeed 1#16 1000#16) (ports 0#32 0xFFFFFFFF#32)) =
      some [.req (.setLinkSpeed 1#16 1000#16), .ld .selwin 4 0xFFFFFFFF#32,
        .resp (some .sel) (.error .invalidArgument)] := by decide

/-! ## compute_divider and reset -/

/-- V3.8: 2500001 is above the target, so the second entry. -/
theorem test_compute_divider_V3_8 :
    (historyOf (exec .computeDivider { State.reset with refRate := some 5000002 })).map (List.getLast? ·) =
      some (some (.resp (some .mdc) (.okValue 4))) := by decide
/-- V3.17: no entry fits, so the last. -/
theorem test_compute_divider_V3_17 :
    (historyOf (exec .computeDivider { State.reset with refRate := some 100000000 })).map (List.getLast? ·) =
      some (some (.resp (some .mdc) (.okValue 16))) := by decide
/-- V4.4: a zero rate ends `reset` after the query, and is latched. -/
theorem test_reset_V4_4 :
    (nextOf (exec .reset { State.reset with clkAnswers := [some 0] })).map (fun t => (t.refRate, t.history)) =
      some (some 0, [.req .reset, .clkQuery (some 0), .resp (some .mdc) (.error .hardwareFault)]) := by decide
/-- V4.6: the first `CFG` store drops the cycle in flight and idles the latch. -/
theorem test_reset_V4_6 :
    (nextOf (exec .reset (busy .wellBehaved (.wr 4 2 7#16) 0 (.reset (.assert 16))))).map
        (fun t => (t.cfgReg, t.pending, t.ind, t.cmd)) =
      some (0x80000010#32, none, 0#32, 0#32) := by decide

/-! ## wait_not_busy, read, write -/

/-- V5.5 on the open line: only the busy bit is tested. -/
theorem test_wait_not_busy_V5_5 :
    historyOf (exec .waitNotBusy { on .openLine .idle with draws := [0xFFFFFFFE#32] }) =
      some [.req .waitNotBusy, .ld .mdiowin 0x14 0xFFFFFFFE#32, .resp (some .mdc) .ok] := by decide
/-- V5.7: with no budget, Timeout without a load. -/
theorem test_wait_not_busy_V5_7 :
    historyOf (exec .waitNotBusy { State.reset with cfg := { Config.refcfg with retryBudget := 0 } }) =
      some [.req .waitNotBusy, .diag, .resp (some .mdc) (.error .timeout)] := by decide
/-- V6.1 step 4: the upper half of `STATUS` is discarded. -/
theorem test_read_V6_1 :
    (nextOf (exec (.read 4#16 2#16) { on .openLine (.read 4#16 2#16 .loadStatus) with draws := [0xABCD1234#32] })).map
      State.mdioSeq = some (.read 4#16 2#16 (.storeBack 0x1234#16)) := by decide
/-- V6.2 step 2b: the operands are masked to 8 bits. -/
theorem test_read_V6_2 :
    (nextOf (exec (.read 0x0123#16 0x01FF#16) (at_ (.read 0x0123#16 0x01FF#16 .storeAddr)))).map State.addr =
      some 0x000023FF#32 := by decide
/-- P2 request 3: the `CTRL` store starts the cycle. -/
theorem test_write_P2_3 :
    (nextOf (exec (.write 1#16 0#16 0x1140#16)
        { at_ (.write 1#16 0#16 0x1140#16 .storeCtrl) with addr := 0x100#32 })).map
        (fun t => (t.pending, t.ctrl, t.ind)) =
      some (some (.wr 1 0 0x1140#16), 0x1140#32, 1#32) := by decide
/-- P5 request 2: the `CTRL` store while a cycle is in flight marks the line, and the cycle goes on. -/
theorem test_write_P5_2 :
    (nextOf (exec (.write 4#16 2#16 0xBEEF#16)
        (busy (.simPhy none) (.wr 4 2 1#16) 0 (.write 4#16 2#16 0xBEEF#16 .storeCtrl)))).map
        (fun t => (t.lineFault, t.pending)) =
      some (true, some (.wr 4 2 1#16)) := by decide
/-- P2: the third Indicator load of SimPHY(2) completes the write cycle. -/
theorem test_simphy_completes :
    (nextOf (exec .waitNotBusy (busy (.simPhy (some 2)) (.wr 1 0 0x1140#16) 0 (.waitNotBusy (.poll 5))))).map
        (fun t => (t.phy, t.ind, t.pending, t.mdioSeq)) =
      some ([(256, 0x1140#16)], 0#32, none, .idle) := by decide
/-- R195: the well-behaved line completes its cycle between two micro-steps. -/
theorem test_line_turn :
    (State.lineTurn { busy .wellBehaved (.rd 4 2) 0 .idle with turns := [true], phy := [(1026, 0x1234#16)] }).status =
      0x1234#32 := by decide

/-- U10: a `read` before the first successful `reset` sees any word at its Indicator loads, under SimPHY too. -/
theorem test_read_before_reset_U10 :
    (nextOf (exec (.read 4#16 2#16) { State.reset with draws := [0x80000001#32] })).map
        (fun t => (t.history, t.mdioSeq)) =
      some ([.req (.read 4#16 2#16), .ld .mdiowin 0x14 0x80000001#32], .read 4#16 2#16 (.firstWait (.delay 999))) := by
  decide
/-- U10: a `write` before the first successful `reset`: an engine held in reset may leave the trigger. -/
theorem test_write_before_reset_U10 :
    (nextOf (exec (.write 4#16 2#16 7#16) { early (.write 4#16 2#16 7#16 .storeCtrl) with turns := [false] })).map
        (fun t => (t.pending, t.ctrl)) = some (none, 7#32) := by decide

/-! ## Witnesses: the hypotheses of every statement can be met -/

theorem witness_DecodeOfEncode :
    (Instr.setInterfaceMode 0xFFFF#16 (.unnamed 0xFFFF#16)).wf = true ∧
      (Instr.setInterfaceMode 0#16 (.unnamed 4#16)).wf = true := by decide

theorem witness_EncodeOfDecode : decode 0x14000004FFFF0000#64 = .op (.write 4#16 0xFFFF#16 0#16) := by decide

/-- An illegal word as the next request. -/
theorem witness_IllegalRequests :
    let s := asked [{ word := 0xFF00000000000000#64, overlap := none }] .idle
    s.cfg.Valid ∧ s.mdioSeq = .idle ∧ s.requests = [{ word := 0xFF00000000000000#64, overlap := none }] ∧
      decode 0xFF00000000000000#64 = .illegal .unknownOpcode := by decide

/-- A table that fits the field `VALUE` at its edge, one that does not, and an operation that answers. -/
theorem witness_ResponseWords :
    (∃ d ∈ ({ Config.refcfg with dividerTable := [2, 65536] } : Config).dividerTable, 65535 < d) ∧
      (∀ d ∈ ({ Config.refcfg with dividerTable := [65535] } : Config).dividerTable, d ≤ 65535) ∧
      (65535 ≤ 65535 ∧ 65535 < 65536) ∧ State.reset.cfg.Valid ∧ (∀ d ∈ State.reset.cfg.dividerTable, d ≤ 65535) ∧
      (nextOf (exec .computeDivider State.reset)).isSome = true := by decide

theorem witness_StepRunsTheRequest :
    let q : Request := { word := 0x1000000000000000#64, overlap := none }
    let s := asked [q] .idle
    s.cfg.Valid ∧ s.mdioSeq = .idle ∧ s.requests = q :: [] ∧ q.overlap = none ∧ decode q.word = .op .computeDivider := by
  decide

/-- Its three clauses: nothing to issue, a request that waits, a request that overlaps. -/
theorem witness_StepGoesOnWithTheOpenOperation :
    let m : MdioSeq := .reset (.release 4)
    (asked [] m).cfg.Valid ∧ (asked [] m).mdioSeq.instr = some .reset ∧ (asked [] m).requests = [] ∧
    (asked (programRequests [.reset]) m).mdioSeq.instr = some .reset ∧
    (asked [{ word := 0#64, overlap := some 1 }] m).requests = [{ word := 0#64, overlap := some (0 + 1) }] := by decide

/-- A selector request and an MDIO request that overlap an open `reset`, one with the selector running. -/
theorem witness_OverlappingRequests :
    let q : Request := { word := encode (.setLinkSpeed 0#16 10#16), overlap := some 0 }
    let r : Request := { word := encode .waitNotBusy, overlap := some 0 }
    let s := asked [q] (.reset .settleReleased)
    s.cfg.Valid ∧ s.mdioSeq ≠ .idle ∧ s.requests = q :: [] ∧ decode q.word = .op (.setLinkSpeed 0#16 10#16) ∧
      componentOf (.setLinkSpeed 0#16 10#16) = .sel ∧ decode r.word = .op .waitNotBusy ∧
      componentOf .waitNotBusy = .mdc ∧ s.mdioSeq.instr ≠ some .waitNotBusy ∧
      ({ s with selSeq := .running } : State).selSeq = .running := by decide

/-- Both sides of the equivalence: REFCFG, and three ports. -/
theorem witness_ConfigurationsRefused :
    State.reset.cfg.Valid ∧ ¬({ Config.refcfg with portCount := 3 } : Config).Valid := by decide

/-- The three line levels, and a valid configuration. -/
theorem witness_PowerOn :
    Launch.reference.level = .simPhy (some 2) ∧
      ({ Launch.reference with level := .wellBehaved } : Launch).level = .wellBehaved ∧
      ({ Launch.reference with level := .openLine } : Launch).level = .openLine ∧ Launch.reference.cfg.Valid := by decide

/-- All four modes on port 0; RGMII and RMII on port 1, the last port. -/
theorem witness_SetInterfaceModeAccepts :
    State.reset.cfg.Valid ∧ State.reset.selSeq = .idle ∧
      (∀ m : Mode, m ∈ [.gmii, .mii, .rgmii, .rmii] → (0#16).toNat < State.reset.cfg.portCount ∧
        (m = .gmii ∨ m = .mii → (0#16) = 0#16) ∧ (m = .gmii ∨ m = .rgmii → State.reset.cfg.supportsGigabit = true)) ∧
      ∀ m : Mode, m ∈ [.rgmii, .rmii] → (1#16).toNat < State.reset.cfg.portCount ∧
        (m = .gmii ∨ m = .mii → (1#16) = 0#16) ∧ (m = .gmii ∨ m = .rgmii → State.reset.cfg.supportsGigabit = true) := by
  decide

/-- The port bound at its edge; then a mode without a name, MII on port 1, RGMII without gigabit. -/
theorem witness_SetInterfaceModeRefuses :
    let c := { Config.refcfg with supportsGigabit := false }
    State.reset.cfg.portCount ≤ (2#16).toNat ∧ (1#16).toNat < State.reset.cfg.portCount ∧
      (∃ n, ModeOperand.unnamed 4#16 = .unnamed n) ∧
      ((ModeOperand.named .mii = .named .gmii ∨ ModeOperand.named .mii = .named .mii) ∧ (1#16) ≠ 0#16) ∧
      c.Valid ∧ c.supportsGigabit = false := by
  refine ⟨by decide, by decide, ⟨4#16, rfl⟩, by decide, by decide, by decide⟩

/-- 1000 Mbps over a stored RGMII, and 10 Mbps over anything. -/
theorem witness_SetLinkSpeedAccepts :
    let s := ports 0x22#32 0xFFFFFFFF#32
    s.cfg.Valid ∧ s.selSeq = .idle ∧ (0#16).toNat < s.cfg.portCount ∧
      ((1000#16) = 1000#16 → (s.miictrl0 >>> s.cfg.selectShift) &&& 3#32 &&& 1#32 = 0#32) ∧
      ((10#16) = 1000#16 → (s.miictrl1 >>> s.cfg.selectShift) &&& 1#32 &&& 1#32 = 0#32) := by decide

/-- The port bound at its edge, a number that is no speed, 1000 Mbps over a stored RMII. -/
theorem witness_SetLinkSpeedRefuses :
    let s := ports 0x13#32 0#32
    s.cfg.portCount ≤ (2#16).toNat ∧ (0#16).toNat < s.cfg.portCount ∧ (99#16) ∉ [10#16, 100#16, 1000#16] ∧
      (s.miictrl0 >>> s.cfg.selectShift) &&& 1#32 = 1#32 := by decide

theorem witness_SelectorWordRoundTrip :
    Config.refcfg.Valid ∧ (1#32 : Word) ≤ selectMask 1 ∧ (3#32 : Word) ≤ Config.refcfg.speedMask := by decide

/-- A successful operation on each port; a word that has (a) to (c) before a step that answers; a speed field that holds
3 and keeps it under GMII. -/
theorem witness_SelectorWordAfterSuccess :
    (historyOf (exec (.setInterfaceMode 1#16 (.named .rmii)) (ports 0#32 0xFFFFFFFF#32))).map (List.getLast? ·) =
        some (some (.resp (some .sel) .ok)) ∧
      (historyOf (exec (.setLinkSpeed 0#16 100#16) (ports 0xFFFFFFFF#32 0#32))).map (List.getLast? ·) =
        some (some (.resp (some .sel) .ok)) ∧
      (ports 0x13#32 0x20#32).PortWordOk 0 ∧ (ports 0x13#32 0x20#32).PortWordOk 1 ∧
      (nextOf (step (ports 0x13#32 0x20#32))).isSome = true ∧
      (nextOf (exec (.setInterfaceMode 0#16 (.named .gmii)) (ports 0x33#32 0#32))).map (State.speedCode · 0) =
        some 3#32 := by decide

theorem witness_SelectorFrame :
    (nextOf (exec (.setInterfaceMode 0#16 (.named .mii)) State.reset)).isSome = true ∧
      (nextOf (exec (.setLinkSpeed 1#16 99#16) State.reset)).isSome = true := by decide

theorem witness_ComputeDividerResult :
    let s := { State.reset with refRate := some 1 }
    s.cfg.Valid ∧ s.mdioSeq = .idle ∧ s.refRate = some 1 ∧ 1 ≠ 0 := by decide

theorem witness_ComputeDividerWithoutClock :
    State.reset.mdioSeq = .idle ∧ State.reset.refRate = none ∧
      ({ State.reset with refRate := some 0 } : State).refRate = some 0 := by decide

theorem witness_ResetWithoutClock :
    let s := { State.reset with clkAnswers := [none, some 0] }
    s.mdioSeq = .idle ∧ s.clkAnswers = none :: [some 0] ∧ ((none : Option Nat) = none ∨ (none : Option Nat) = some 0) := by
  decide

/-- The five positions, with the last entry of the table, and a launch that lists no clock answer. -/
theorem witness_ResetMicroSteps :
    let s := { State.reset with clkAnswers := [some 40000000] }
    s.cfg.Valid ∧ 16 ∈ s.cfg.dividerTable ∧ s.mdioSeq = .idle ∧ s.cfg.divider (some 40000000) = some 16 ∧
      State.reset.clkAnswers = [] ∧ State.reset.mdioSeq = .idle ∧
      (at_ (.reset (.assert 16))).mdioSeq = .reset (.assert 16) ∧
      (at_ (.reset (.settleAsserted 16))).mdioSeq = .reset (.settleAsserted 16) ∧
      (at_ (.reset (.release 16))).mdioSeq = .reset (.release 16) ∧
      (early (.reset .settleReleased)).mdioSeq = .reset .settleReleased := by decide

theorem witness_ResetRunsToItsEnd :
    let s := { asked (programRequests [.reset]) .idle with clkAnswers := [some 40000000] }
    s.cfg.Valid ∧ s.mdioSeq = .idle ∧ 40000000 ≠ 0 ∧ s.requests = programRequests [.reset] ∧
      s.clkAnswers = some 40000000 :: [] ∧ s.level ≠ .openLine ∧ (on .openLine .idle).level = .openLine := by decide

theorem witness_AcceptanceIsTheFirstMicroStep :
    State.reset.cfg.Valid ∧ State.reset.mdioSeq = .idle ∧ componentOf .reset = .mdc ∧ Instr.reset ≠ .computeDivider := by
  decide

/-- The three positions of a wait at the edges of the budget, and a load that sees the bit clear or set. -/
theorem witness_WaitNotBusyMicroSteps :
    (at_ (.waitNotBusy (.delay 0))).cfg.Valid ∧ (at_ (.waitNotBusy (.delay 0))).mdioSeq = .waitNotBusy (.delay 0) ∧
      (at_ (.waitNotBusy (.poll 0))).mdioSeq = .waitNotBusy (.poll 0) ∧
      (at_ (.waitNotBusy (.poll 1000))).driveInd.ind &&& 1#32 = 0#32 ∧
      (busy (.simPhy (some 2)) (.rd 4 2) 2 (.waitNotBusy (.poll 1))).driveInd.ind &&& 1#32 ≠ 0#32 := by decide

theorem witness_WaitNotBusyOnAnIdleBus :
    State.reset.cfg.Valid ∧ State.reset.mdioSeq = .idle ∧ 0 < State.reset.cfg.retryBudget ∧
      State.reset.driveInd.ind &&& State.reset.cfg.indBusy = 0#32 := by decide

theorem witness_WaitUsesItsExactBudget :
    let s := asked (programRequests [.waitNotBusy]) .idle
    s.cfg.Valid ∧ s.mdioSeq = .idle ∧ s.requests = programRequests [.waitNotBusy] := by decide

/-- The five positions of `read` that are no wait, the load of `STATUS` on the open line, before and after a `reset`. -/
theorem witness_ReadMicroSteps :
    (at_ (.read 4#16 2#16 .storeIdle)).cfg.Valid ∧
      (at_ (.read 4#16 2#16 .storeIdle)).mdioSeq = .read 4#16 2#16 .storeIdle ∧
      (at_ (.read 0xFFFF#16 0xFFFF#16 .storeAddr)).mdioSeq = .read 0xFFFF#16 0xFFFF#16 .storeAddr ∧
      (on .openLine (.read 4#16 2#16 .loadStatus)).level = .openLine ∧
      ({ on .openLine (.read 4#16 2#16 .loadStatus) with draws := [7#32] } : State).draws = 7#32 :: [] ∧
      (at_ (.read 4#16 2#16 .loadStatus)).level ≠ .openLine ∧ (at_ (.read 4#16 2#16 .loadStatus)).resetDone = true ∧
      (early (.read 4#16 2#16 .loadStatus)).level ≠ .openLine ∧ (early (.read 4#16 2#16 .loadStatus)).resetDone = false ∧
      ({ early (.read 4#16 2#16 .loadStatus) with draws := [7#32] } : State).draws = 7#32 :: [] ∧
      (at_ (.read 4#16 2#16 (.storeBack 0xFFFF#16))).mdioSeq = .read 4#16 2#16 (.storeBack 0xFFFF#16) ∧
      (at_ (.read 4#16 2#16 .abort)).mdioSeq = .read 4#16 2#16 .abort := by decide

/-- The open line; an idle line with the latch in WRITE-mode, after a `reset` and before with a choice listed and not, in
READ-mode and foreign; a cycle in flight. -/
theorem witness_ReadStartsItsCycle :
    let q : MdioSeq := .read 4#16 2#16 .storeRead
    let s := at_ q
    s.cfg.Valid ∧ s.mdioSeq = q ∧ s.level ≠ .openLine ∧ s.pending = none ∧ s.cmd = s.cfg.cmdWrite ∧
      s.resetDone = true ∧ (early q).resetDone = false ∧ (early q).turns = [] ∧
      ({ early q with turns := [false] } : State).turns = false :: [] ∧
      (on .openLine q).level = .openLine ∧ ({ s with cmd := 1#32 } : State).cmd ≠ s.cfg.cmdWrite ∧
      ({ s with cmd := 2#32 } : State).cmd ≠ s.cfg.cmdWrite ∧ (busy .wellBehaved (.rd 0 0) 0 q).pending ≠ none := by decide

/-- The first and the last poll of both waits of `read`. -/
theorem witness_ReadWaits :
    (at_ (.read 4#16 2#16 (.firstWait (.poll 1000)))).cfg.Valid ∧
      (at_ (.read 4#16 2#16 (.firstWait (.poll 0)))).mdioSeq = .read 4#16 2#16 (.firstWait (.poll 0)) ∧
      (at_ (.read 4#16 2#16 (.secondWait (.delay 0)))).mdioSeq = .read 4#16 2#16 (.secondWait (.delay 0)) := by decide

/-- The open line; an idle line with the latch in WRITE-mode, after a `reset` and before with a choice listed and not, in
READ-mode and foreign; a cycle in flight. -/
theorem witness_WriteMicroSteps :
    let q : MdioSeq := .write 4#16 2#16 0xBEEF#16 .storeCtrl
    let s := at_ q
    s.cfg.Valid ∧ State.reset.mdioSeq = .idle ∧ s.mdioSeq = q ∧ s.level ≠ .openLine ∧ s.pending = none ∧
      s.cmd = s.cfg.cmdWrite ∧ s.resetDone = true ∧ (early q).resetDone = false ∧ (early q).turns = [] ∧
      ({ early q with turns := [true] } : State).turns = true :: [] ∧ (on .openLine q).level = .openLine ∧
      ({ s with cmd := 1#32 } : State).cmd = s.cfg.cmdRead ∧
      (({ s with cmd := 2#32 } : State).cmd ≠ s.cfg.cmdWrite ∧ ({ s with cmd := 2#32 } : State).cmd ≠ s.cfg.cmdRead) ∧
      (busy .wellBehaved (.rd 0 0) 0 q).pending ≠ none := by decide

theorem witness_WriteWait :
    (at_ (.write 4#16 2#16 0#16 (.finalWait (.poll 1)))).cfg.Valid ∧
      (at_ (.write 4#16 2#16 0#16 (.finalWait (.poll 1)))).mdioSeq = .write 4#16 2#16 0#16 (.finalWait (.poll (0 + 1))) := by
  decide

/-- A step of each MDIO operation with a write cycle in flight, and two PHY cells: the one in flight and another. -/
theorem witness_frames :
    let s := busy (.simPhy (some 2)) (.wr 1 0 0x1140#16) 0 .idle
    s.cfg.Valid ∧ (nextOf (exec .waitNotBusy s)).isSome = true ∧ (nextOf (exec .computeDivider s)).isSome = true ∧
      (nextOf (exec .reset { s with clkAnswers := [none] })).isSome = true ∧
      (nextOf (exec (.read 1#16 0#16) s)).isSome = true ∧ (nextOf (exec (.write 1#16 0#16 0#16) s)).isSome = true ∧
      s.cellInFlight = some 256 ∧ s.cellInFlight ≠ some 257 := by decide

/-- A store that succeeds, and two loads that do, of a port's word and of `IND`. -/
theorem witness_StoresAreReadBack :
    (match State.reset.regWrite .mdiowin 0x08 5#32 with
      | .ok t => decide (t.addr = 5#32)
      | .error _ => false) = true := by decide
/-- Loads that succeed: of a port's word, of `STATUS`, of `IND` on each level, with a cycle to complete under SimPHY; of
both in a `read` before the first successful `reset`. -/
theorem witness_WhatALoadChanges :
    let loads (s : State) (win : Window) (off : Nat) : Bool := match s.regRead win off with
      | .ok _ => true
      | .error _ => false
    loads State.reset .selwin 4 = true ∧ loads State.reset .mdiowin 0x10 = true ∧
      loads (busy (.simPhy (some 2)) (.wr 4 2 1#16) 0 .idle) .mdiowin 0x14 = true ∧
      (busy (.simPhy (some 2)) (.wr 4 2 1#16) 0 .idle).cellInFlight ≠ some 0 ∧
      (early (.read 4#16 2#16 .loadStatus)).beforeReset = true ∧ State.reset.beforeReset = false ∧
      loads (early (.read 4#16 2#16 .loadStatus)) .mdiowin 0x10 = true ∧
      loads (early (.read 4#16 2#16 .loadStatus)) .mdiowin 0x14 = true ∧
      loads (on .openLine .idle) .mdiowin 0x14 = true ∧ loads (on .wellBehaved .idle) .mdiowin 0x14 = true := by decide

/-- `LINE` with and without a listed word, busy and idle, and SimPHY; inside a `read` after a `reset`, and outside before
one. -/
theorem witness_LineLoads :
    (on .wellBehaved .idle).beforeReset = false ∧ State.reset.beforeReset = false ∧
      (on .wellBehaved (.read 4#16 2#16 .loadStatus)).beforeReset = false ∧ (on .wellBehaved .idle).cfg.Valid ∧
      (on .wellBehaved .idle).level = .wellBehaved ∧ (on .wellBehaved .idle).draws = [] ∧
      ({ on .wellBehaved .idle with draws := [9#32] } : State).draws = 9#32 :: [] ∧
      (on .wellBehaved .idle).BusyFollowsPending ∧ (busy .wellBehaved (.rd 0 0) 0 .idle).BusyFollowsPending ∧
      State.reset.level = .simPhy (some 2) := by decide

/-- Both ports of REFCFG, and an offset of each window. -/
theorem witness_AddressMap :
    Config.refcfg.Valid ∧ 1 < Config.refcfg.portCount ∧ Config.refcfg.regAt .selwin 4 = some .miictrl1 ∧
      Config.refcfg.regAt .mdiowin 0x14 = some .ind := by decide

/-- The latch in WRITE-mode, and in READ-mode, with no cycle in flight; in a `read` before the first successful `reset`
with a choice listed and not. -/
theorem witness_CommandStores :
    let e := early (.read 4#16 2#16 .storeRead)
    State.reset.beforeReset = false ∧ e.beforeReset = true ∧ e.cmd = e.cfg.cmdWrite ∧ e.pending = none ∧ e.turns = [] ∧
      ({ e with turns := [true] } : State).turns = true :: [] ∧ State.reset.cfg.Valid ∧
      State.reset.level ≠ .openLine ∧ State.reset.cmd = State.reset.cfg.cmdWrite ∧
      State.reset.pending = none ∧ ({ State.reset with cmd := 1#32 } : State).cmd = State.reset.cfg.cmdRead := by decide

/-- A cycle in flight; the latch in READ-mode; a value that is no command. -/
theorem witness_StoresWithoutBehaviour :
    (busy .wellBehaved (.rd 0 0) 0 .idle).cfg.Valid ∧ (busy .wellBehaved (.rd 0 0) 0 .idle).level ≠ .openLine ∧
      (busy .wellBehaved (.rd 0 0) 0 .idle).pending ≠ none ∧ (2#32 : Word) ≠ Config.refcfg.cmdRead ∧
      (2#32 : Word) ≠ Config.refcfg.cmdWrite := by decide

/-- A read cycle and a write cycle, the last cell, LINE's choice either way; a level where LINE has none, and nothing in
flight. -/
theorem witness_CompletionOfACycle :
    (busy .wellBehaved (.rd 255 255) 0 .idle).pending = some (.rd 255 255) ∧
      (busy .wellBehaved (.wr 255 255 1#16) 0 .idle).pending = some (.wr 255 255 1#16) ∧
      (busy .wellBehaved (.wr 255 255 1#16) 0 .idle).phy.wf = true ∧
      (busy .wellBehaved (.wr 255 255 1#16) 0 .idle).level = .wellBehaved ∧
      ({ busy .wellBehaved (.wr 255 255 1#16) 0 .idle with turns := [true, false] } : State).turns = true :: [false] ∧
      (busy .openLine (.rd 0 0) 0 .idle).level ≠ .wellBehaved ∧ (on .wellBehaved .idle).pending = none := by
  decide

/-- No cycle; a cycle with the countdown at 1 and at 0; a cycle under `ALWAYS_BUSY`. -/
theorem witness_SimPhyIndicatorLoads :
    State.reset.cfg.Valid ∧ State.reset.level = .simPhy (some 2) ∧ State.reset.BusyFollowsPending ∧
      State.reset.beforeReset = false ∧ (busy (.simPhy (some 2)) (.rd 0 0) 1 .idle).beforeReset = false ∧
      State.reset.pending = none ∧ (busy (.simPhy (some 2)) (.rd 0 0) 1 .idle).BusyFollowsPending ∧
      0 < (busy (.simPhy (some 2)) (.rd 0 0) 1 .idle).countdown ∧
      (busy (.simPhy (some 2)) (.rd 0 0) 0 .idle).countdown = 0 ∧
      (busy (.simPhy none) (.rd 0 0) 0 .idle).BusyFollowsPending := by decide

theorem witness_SimPhyLatency : State.reset.cfg.Valid ∧ State.reset.level = .simPhy (some 2) ∧ 1 < 2 := by decide

/-- The open line with and without a listed word, and a store that succeeds there; a `read` and a `write` before the first
successful `reset`, with and without a listed word. -/
theorem witness_OpenLineAssumesNothing :
    (early (.read 4#16 2#16 .loadStatus)).beforeReset = true ∧
      ({ early (.write 4#16 2#16 0#16 .storeCtrl) with draws := [9#32] } : State).beforeReset = true ∧
      (early (.read 4#16 2#16 .loadStatus)).draws = [] ∧
      (on .openLine .idle).cfg.Valid ∧ (on .openLine .idle).level = .openLine ∧ (on .openLine .idle).draws = [] ∧
      ({ on .openLine .idle with draws := [9#32] } : State).draws = 9#32 :: [] ∧
      (match (on .openLine .idle).regWrite .mdiowin 0x04 9#32 with
        | .ok _ => true
        | .error _ => false) = true := by decide

/-- A latency one below the budget, and operands that agree in their low 8 bits only. -/
theorem witness_WriteThenReadRoundTrip :
    let s := { asked (programRequests [.write 0x0123#16 0x01FF#16 0xFFFF#16, .read 0x23#16 0xFF#16]) .idle with
      level := .simPhy (some 999) }
    s.cfg.Valid ∧ s.level = .simPhy (some 999) ∧ 999 < s.cfg.retryBudget ∧ s.resetDone = true ∧ s.mdioSeq = .idle ∧
      s.InvNotBusy ∧
      s.InvCmdIdle ∧ s.InvNoLineFault ∧ s.phy.wf = true ∧ (0x0123#16).toNat % 256 = (0x23#16).toNat % 256 ∧
      (0x01FF#16).toNat % 256 = (0xFF#16).toNat % 256 ∧
      s.requests = programRequests [.write 0x0123#16 0x01FF#16 0xFFFF#16, .read 0x23#16 0xFF#16] := by decide

/-- The invariant and the latch hold inside a `read`, and the step from there answers. -/
theorem witness_InvariantIsKept :
    let s := at_ (.read 4#16 2#16 .storeRead)
    s.Inv ∧ s.CommandLatch ∧ (nextOf (step s)).isSome = true := by decide
theorem witness_CommandLatchIsKept :
    let s := { busy (.simPhy (some 2)) (.rd 4 2) 2 (.read 4#16 2#16 (.secondWait (.poll 1000))) with cmd := 1#32 }
    s.CommandLatch ∧ s.cmd ≠ s.cfg.cmdWrite ∧ (nextOf (step s)).isSome = true := by decide

theorem witness_InvariantAtPowerOn : Launch.reference.cfg.Valid ∧ Launch.reference.phy.wf = true := by decide

/-- The hazard of R162: the `CTRL` store of a `write` while a cycle is in flight. -/
theorem witness_OnlyATriggerWhileBusyFaultsTheLine :
    let s := busy (.simPhy none) (.wr 4 2 1#16) 0 (.write 4#16 2#16 0xBEEF#16 .storeCtrl)
    s.Inv ∧ s.CommandLatch ∧ s.lineFault = false ∧ (nextOf (step s)).map State.lineFault = some true := by decide
/-- A `read` that arms its cycle over a busy line before the first successful `reset`. -/
theorem witness_OnlyATriggerWhileBusyFaultsTheLine_before_reset :
    let s := { busy (.simPhy none) (.wr 4 2 1#16) 0 (.read 4#16 2#16 .storeRead) with resetDone := false }
    s.Inv ∧ s.CommandLatch ∧ s.lineFault = false ∧ (nextOf (step s)).map State.lineFault = some true := by decide

/-- The mark stays; the last micro-step of `reset` notes its OK, and the note stays. -/
theorem witness_StickyAndFixedState :
    (nextOf (step { at_ (.reset (.assert 4)) with lineFault := true })).map State.lineFault = some true ∧
      (nextOf (step (early (.reset .settleReleased)))).map State.resetDone = some true ∧
      (nextOf (step (early (.reset (.release 4))))).map State.resetDone = some false ∧
      (nextOf (step (at_ (.reset (.assert 4))))).map State.resetDone = some true := by decide

theorem witness_NoStepFaults : State.reset.cfg.Valid := by decide

theorem witness_SerialHostNeverStops :
    let s := asked (programRequests [.reset, .computeDivider]) (.reset .settleReleased)
    s.cfg.Valid ∧ s.SerialHost ∧ s.selSeq = .idle := by decide

theorem witness_HistoryIsReadForNothing :
    (nextOf (step (asked (programRequests [.waitNotBusy]) .idle))).isSome = true := by decide

/-- An MDIO step and a selector step that answer. -/
theorem witness_ComponentsAreIndependent :
    (nextOf (exec (.read 4#16 2#16) (at_ (.read 4#16 2#16 .storeAddr)))).isSome = true ∧
      componentOf (.read 4#16 2#16) = .mdc ∧
      (nextOf (exec (.setLinkSpeed 0#16 10#16) (at_ (.read 4#16 2#16 .storeAddr)))).isSome = true ∧
      componentOf (.setLinkSpeed 0#16 10#16) = .sel := by decide

theorem witness_EveryOperationEnds :
    let s := at_ (.write 4#16 2#16 0#16 (.finalWait (.poll 1000)))
    s.cfg.Valid ∧ s.SerialHost ∧ s.mdioSeq ≠ .idle ∧ s.mdioSeq.stepsLeft s.cfg.retryBudget = 2001 := by decide

theorem witness_MicroStepsOfAWholeOperation :
    let q : Request := { word := encode (.read 0#16 0#16), overlap := none }
    let s := asked (q :: programRequests [.reset]) .idle
    s.cfg.Valid ∧ s.SerialHost ∧ s.selSeq = .idle ∧ s.mdioSeq = .idle ∧ s.requests = q :: programRequests [.reset] ∧
      decode q.word = .op (.read 0#16 0#16) := by decide

theorem witness_ResultsOfEachOperation :
    State.reset.cfg.Valid ∧ (nextOf (exec .waitNotBusy State.reset)).isSome = true ∧
      componentOf .waitNotBusy = .mdc ∧ componentOf (.setInterfaceMode 9#16 (.named .mii)) = .sel ∧
      (nextOf (exec (.setInterfaceMode 9#16 (.named .mii)) State.reset)).isSome = true := by decide

end Sys2Proof.Tests
end

section
/-! SUPPORT. The two fields of a `MIICTRL` word as bit fields (10_state.md R24, R25, R43): the masks are the words with
the low bits set, a code within its mask comes back from its own field and leaves the other field 0, and packing the
two codes of a word keeps exactly the bits of the two fields. -/

namespace Sys2Proof

/-- The word whose low `k` bits are 1 and whose other bits are 0: the shape of both field masks (R25, R43). -/
def lowMask (k : Nat) : Word := BitVec.ofNat 32 (2 ^ k - 1)

@[simp] theorem getLsbD_lowMask (k i : Nat) : (lowMask k).getLsbD i = (decide (i < 32) && decide (i < k)) := by
  simp [lowMask, BitVec.getLsbD_ofNat, Nat.testBit_two_pow_sub_one]

theorem Config.speedMask_eq_lowMask (c : Config) : c.speedMask = lowMask c.speedWidth := rfl

/-- The select field is one or two bits wide (R25), so it fits in the two bits R11 keeps free for it. -/
theorem selectMask_eq_lowMask (p : Nat) : ∃ k ≤ 2, selectMask p = lowMask k := by
  unfold selectMask
  split
  · exact ⟨1, by decide, rfl⟩
  · exact ⟨2, by decide, rfl⟩

/-- A code within its mask has no bit at or above the width of its field. -/
theorem getLsbD_of_le_lowMask {x : Word} {k i : Nat} (hx : x ≤ lowMask k) (hi : k ≤ i) : x.getLsbD i = false := by
  have hle : x.toNat ≤ (2 ^ k - 1) % 2 ^ 32 := by simpa [lowMask, BitVec.le_def] using hx
  have hlt : x.toNat < 2 ^ k := by
    have := Nat.mod_le (2 ^ k - 1) (2 ^ 32)
    have := Nat.two_pow_pos k
    omega
  exact Nat.testBit_lt_two_pow (hlt.trans_le (Nat.pow_le_pow_right (by decide) hi))

/-- A field that lies inside the word gives its code back. -/
theorem field_shiftLeft_same {x : Word} {k s : Nat} (hx : x ≤ lowMask k) (hs : s + k ≤ 32) :
    ((x <<< s) >>> s) &&& lowMask k = x := by
  apply BitVec.eq_of_getLsbD_eq
  intro i hi
  by_cases hk : i < k
  · have : s + i < 32 := by omega
    simp [hi, hk, this]
  · simp [hk, getLsbD_of_le_lowMask hx (Nat.le_of_not_lt hk)]

/-- A code stored in one field leaves a field beside it 0. -/
theorem field_shiftLeft_disjoint {y : Word} {k n s t : Nat} (hy : y ≤ lowMask n) (hd : s + k ≤ t ∨ t + n ≤ s) :
    ((y <<< t) >>> s) &&& lowMask k = 0#32 := by
  apply BitVec.eq_of_getLsbD_eq
  intro i hi
  rcases hd with hbelow | habove
  · by_cases hk : i < k
    · have : s + i < t := by omega
      simp [this]
    · simp [hk]
  · have := getLsbD_of_le_lowMask hy (i := s + i - t) (by omega)
    simp [this]

/-- Masking a field out of a word and putting it back keeps the word's bits under the mask in place. -/
theorem shiftLeft_ushiftRight_and (w m : Word) (s : Nat) : ((w >>> s) &&& m) <<< s = w &&& (m <<< s) := by
  apply BitVec.eq_of_getLsbD_eq
  intro i hi
  by_cases hs : i < s
  · simp [hs]
  · have : s + (i - s) = i := by omega
    simp [hi, hs, this]

/-- A word under a mask is the word itself exactly when its bits outside the mask are 0. -/
theorem and_eq_self_iff_and_not_eq_zero (w m : Word) : w &&& m = w ↔ w &&& ~~~m = 0#32 := by
  simp only [BitVec.eq_of_getLsbD_eq_iff]
  refine forall₂_congr fun i hi => ?_
  cases hw : w[i] <;> simp [hw, hi]

/-- Packing the decoded codes keeps the bits of the two fields and clears every other bit (R27, R43). -/
theorem Config.encodeSelector_decodeSelector (c : Config) (p : Nat) (w : Word) :
    c.encodeSelector (c.decodeSelector p w) =
      w &&& ((selectMask p <<< c.selectShift) ||| (c.speedMask <<< c.speedShift)) := by
  simp only [encodeSelector, decodeSelector, packSelector, selectCode, speedCode, shiftLeft_ushiftRight_and,
    BitVec.and_or_distrib_left]

/-- The select field of a packed word, for codes within their masks. -/
theorem Config.selectCode_packSelector {c : Config} {p : Nat} {sel spd : Word} (hc : c.SelectorOk)
    (hsel : sel ≤ selectMask p) (hspd : spd ≤ c.speedMask) : c.selectCode p (c.packSelector sel spd) = sel := by
  obtain ⟨-, -, -, hin, -, hdisjoint⟩ := hc
  obtain ⟨k, hk, hmask⟩ := selectMask_eq_lowMask p
  rw [hmask] at hsel
  rw [speedMask_eq_lowMask] at hspd
  have hown := field_shiftLeft_same (s := c.selectShift) hsel (by omega)
  have hother := field_shiftLeft_disjoint (k := k) (s := c.selectShift) (t := c.speedShift) hspd (by omega)
  rw [selectCode, packSelector, hmask, BitVec.ushiftRight_or_distrib, BitVec.and_or_distrib_right, hown, hother,
    BitVec.or_zero]

/-- The speed field of a packed word, for codes within their masks. -/
theorem Config.speedCode_packSelector {c : Config} {p : Nat} {sel spd : Word} (hc : c.SelectorOk)
    (hsel : sel ≤ selectMask p) (hspd : spd ≤ c.speedMask) : c.speedCode (c.packSelector sel spd) = spd := by
  obtain ⟨-, -, -, -, hin, hdisjoint⟩ := hc
  obtain ⟨k, hk, hmask⟩ := selectMask_eq_lowMask p
  rw [hmask] at hsel
  rw [speedMask_eq_lowMask] at hspd
  have hown := field_shiftLeft_same (s := c.speedShift) hspd hin
  have hother := field_shiftLeft_disjoint (k := c.speedWidth) (s := c.speedShift) (t := c.selectShift) hsel (by omega)
  rw [speedCode, packSelector, speedMask_eq_lowMask, BitVec.ushiftRight_or_distrib, BitVec.and_or_distrib_right, hown,
    hother, BitVec.zero_or]

/-- Settles O15: each field of a packed word reads back its own code, and packing a word's codes is masking the word
with the two fields. -/
theorem selectorWordRoundTrip : Obligations.SelectorWordRoundTrip := by
  intro c p hc
  obtain ⟨-, hsel, -⟩ := hc
  refine ⟨fun f hselect hspeed => ?_, fun w => ?_⟩
  · simp only [Config.decodeSelector, Config.encodeSelector, Config.selectCode_packSelector hsel hselect hspeed,
      Config.speedCode_packSelector hsel hselect hspeed]
  · rw [Config.encodeSelector_decodeSelector, and_eq_self_iff_and_not_eq_zero]

end Sys2Proof
end

section
/-! SUPPORT. The words `set_interface_mode` and `set_link_speed` store (40_interface_selector.md R123 to R133): each is
two codes within their masks, an odd select code never goes with a speed code above 1, and the speed code 3 is only ever
carried over. -/

namespace Sys2Proof

/-! ## The masks -/

theorem selectMask_and_one (p : Nat) : selectMask p &&& 1#32 = 1#32 := by
  unfold selectMask
  split <;> decide

/-- The speed field has at least two bits (R11), so every code of R26 fits in it. -/
theorem Config.three_le_speedMask {c : Config} (hc : c.SelectorOk) : 3#32 ≤ c.speedMask := by
  obtain ⟨-, -, hwide, -, hin, -⟩ := hc
  have hlow : 2 ^ 2 ≤ 2 ^ c.speedWidth := Nat.pow_le_pow_right (by decide) hwide
  have hhigh : 2 ^ c.speedWidth ≤ 2 ^ 32 := Nat.pow_le_pow_right (by decide) (by omega)
  simp only [speedMask, BitVec.le_def, BitVec.toNat_ofNat]
  omega

/-- A masked word is within its mask. -/
theorem and_le_mask (w m : Word) : w &&& m ≤ m := by
  rw [BitVec.le_def, BitVec.toNat_and]
  exact Nat.and_le_right

theorem Config.speedCode_le_speedMask (c : Config) (w : Word) : c.speedCode w ≤ c.speedMask := and_le_mask _ _

theorem Config.selectCode_le_selectMask (c : Config) (p : Nat) (w : Word) : c.selectCode p w ≤ selectMask p :=
  and_le_mask _ _

/-! ## A stored word -/

/-- The codes a selector operation may put together: each within its mask, (R)MII never with gigabit (R136 (c)). -/
structure Config.CodesOk (c : Config) (p : Nat) (sel spd : Word) : Prop where
  select_le : sel ≤ selectMask p
  speed_le : spd ≤ c.speedMask
  odd_select : sel &&& 1#32 = 1#32 → spd ≤ 1#32

/-- R136 (a) to (c) of a word of port `p`: what `State.PortWordOk` says of the word a port holds. -/
def Config.WordOk (c : Config) (p : Nat) (w : Word) : Prop :=
  w &&& ~~~((selectMask p <<< c.selectShift) ||| (c.speedMask <<< c.speedShift)) = 0#32 ∧
    ((w >>> c.selectShift) &&& 1#32 = 1#32 → c.speedCode w ≤ 1#32)

/-- The low bit of the select field can be read off the masked code, whichever port it is. -/
theorem Config.selectCode_and_one (c : Config) (p : Nat) (w : Word) :
    c.selectCode p w &&& 1#32 = (w >>> c.selectShift) &&& 1#32 := by
  rw [selectCode, BitVec.and_assoc, selectMask_and_one]

/-- A word packed from such codes has nothing outside the two fields, and keeps (R)MII away from gigabit. -/
theorem Config.CodesOk.wordOk {c : Config} {p : Nat} {sel spd : Word} (hc : c.SelectorOk) (h : c.CodesOk p sel spd) :
    c.WordOk p (c.packSelector sel spd) := by
  have hsel := selectCode_packSelector hc h.select_le h.speed_le
  have hspd := speedCode_packSelector hc h.select_le h.speed_le
  refine ⟨?_, fun hodd => ?_⟩
  · rw [← and_eq_self_iff_and_not_eq_zero, ← encodeSelector_decodeSelector]
    simp only [encodeSelector, decodeSelector, hsel, hspd]
  · rw [← selectCode_and_one c p, hsel] at hodd
    rw [hspd]
    exact h.odd_select hodd

/-! ## `set_interface_mode` -/

/-- The clamp of R126: nothing above the code of 100 Mbps goes with MII or RMII. -/
theorem Mode.speedFor_le_one {m : Mode} (hm : m.gigabit = false) (cur : Word) : m.speedFor cur ≤ 1#32 := by
  simp only [speedFor, hm, Bool.false_eq_true, if_false]
  split
  · assumption
  · exact BitVec.le_refl _

/-- GMII and RGMII carry the speed code over (R126). -/
theorem Mode.speedFor_of_gigabit {m : Mode} (hm : m.gigabit = true) (cur : Word) : m.speedFor cur = cur := if_pos hm

/-- The select code is even exactly for the modes that may run at gigabit (R25). -/
theorem Mode.gigabit_of_even_code {m : Mode} {p : Nat} (h : (m.code &&& selectMask p) &&& 1#32 = 1#32) :
    m.gigabit = false := by
  rw [BitVec.and_assoc, selectMask_and_one] at h
  cases m with
  | gmii => exact absurd h (by decide)
  | mii => rfl
  | rgmii => exact absurd h (by decide)
  | rmii => rfl

theorem Mode.gigabit_iff (m : Mode) : m.gigabit = true ↔ m = .gmii ∨ m = .rgmii := by
  cases m <;> decide

theorem Mode.port0Only_iff (m : Mode) : m.port0Only = true ↔ m = .gmii ∨ m = .mii := by
  cases m <;> decide

/-- The word stored when every check of R124 and R125 passes. -/
theorem Config.modeWord_named {c : Config} {p : Nat} {m : Mode} (hport : m.port0Only = true → p = 0)
    (hgigabit : m.gigabit = true → c.supportsGigabit = true) (w : Word) :
    c.modeWord p (.named m) w = some (c.packSelector (m.code &&& selectMask p) (m.speedFor (c.speedCode w))) := by
  simp only [modeWord]
  rw [if_neg fun h => h.2 (hport h.1), if_neg fun h => h.2 (hgigabit h.1)]

/-- A stored mode has a name, and its word packs the two codes of R25 and R126. -/
theorem Config.modeWord_eq_some {c : Config} {p : Nat} {m : ModeOperand} {w v : Word} (h : c.modeWord p m w = some v) :
    ∃ n, m = .named n ∧ v = c.packSelector (n.code &&& selectMask p) (n.speedFor (c.speedCode w)) := by
  cases m with
  | unnamed k => cases h
  | named n =>
    simp only [modeWord] at h
    split at h
    · cases h
    · split at h
      · cases h
      · exact ⟨n, rfl, (Option.some.inj h).symm⟩

theorem Config.codesOk_mode {c : Config} (hc : c.SelectorOk) (p : Nat) (m : Mode) (w : Word) :
    c.CodesOk p (m.code &&& selectMask p) (m.speedFor (c.speedCode w)) where
  select_le := and_le_mask _ _
  speed_le := by
    cases hm : m.gigabit with
    | true => rw [Mode.speedFor_of_gigabit hm]; exact c.speedCode_le_speedMask w
    | false =>
      have := Mode.speedFor_le_one hm (c.speedCode w)
      have := three_le_speedMask hc
      bv_omega
  odd_select h := Mode.speedFor_le_one (Mode.gigabit_of_even_code h) _

/-! ## `set_link_speed` -/

/-- The three codes of R131; 3 is none of them. -/
theorem speedCodeOf_le_two {v : Half} {code : Word} (h : speedCodeOf v = some code) : code ≤ 2#32 := by
  unfold speedCodeOf at h
  split at h
  · cases h; decide
  · split at h
    · cases h; decide
    · split at h
      · cases h; decide
      · cases h

/-- A stored speed keeps the select code, and its own code is at most 2, at most 1 over an odd select code (R131,
R132). -/
theorem Config.linkWord_eq_some {c : Config} {p : Nat} {x : Half} {w v : Word} (h : c.linkWord p x w = some v) :
    ∃ code ≤ 2#32, (c.selectCode p w &&& 1#32 = 1#32 → code ≤ 1#32) ∧ v = c.packSelector (c.selectCode p w) code := by
  unfold linkWord at h
  split at h
  · cases h
  · rename_i code hcode
    have hle := speedCodeOf_le_two hcode
    split at h
    · cases h
    · rename_i hgigabit
      refine ⟨code, hle, fun hodd => ?_, (Option.some.inj h).symm⟩
      have : code ≠ 2#32 := fun h2 => hgigabit ⟨h2, hodd⟩
      bv_omega

theorem Config.codesOk_link {c : Config} (hc : c.SelectorOk) {p : Nat} {w code : Word} (hle : code ≤ 2#32)
    (hodd : c.selectCode p w &&& 1#32 = 1#32 → code ≤ 1#32) : c.CodesOk p (c.selectCode p w) code where
  select_le := c.selectCode_le_selectMask p w
  speed_le := by
    have := three_le_speedMask hc
    bv_omega
  odd_select := hodd

/-! ## Either operation -/

/-- The operation passes its checks on port `p` and stores `v` over `w`. -/
def Config.StoresWord (c : Config) (i : Instr) (p : Nat) (w v : Word) : Prop :=
  (∃ q m, i = .setInterfaceMode q m ∧ q.toNat = p ∧ c.modeWord p m w = some v) ∨
    ∃ q x, i = .setLinkSpeed q x ∧ q.toNat = p ∧ c.linkWord p x w = some v

/-- R136 (a) to (c) hold of every stored word, from any contents. -/
theorem Config.StoresWord.wordOk {c : Config} {i : Instr} {p : Nat} {w v : Word} (hc : c.SelectorOk)
    (h : c.StoresWord i p w v) : c.WordOk p v := by
  obtain ⟨q, m, -, -, hword⟩ | ⟨q, x, -, -, hword⟩ := h
  · obtain ⟨n, -, rfl⟩ := modeWord_eq_some hword
    exact (codesOk_mode hc p n w).wordOk hc
  · obtain ⟨code, hle, hodd, rfl⟩ := linkWord_eq_some hword
    exact (codesOk_link hc hle hodd).wordOk hc

/-- R136 (d): a stored speed code 3 was there before, and GMII or RGMII carried it over. -/
theorem Config.StoresWord.speedCode_three {c : Config} {i : Instr} {p : Nat} {w v : Word} (hc : c.SelectorOk)
    (h : c.StoresWord i p w v) (h3 : c.speedCode v = 3#32) :
    c.speedCode w = 3#32 ∧ ∃ q m, i = .setInterfaceMode q (.named m) ∧ q.toNat = p ∧ (m = .gmii ∨ m = .rgmii) := by
  obtain ⟨q, m, hi, hq, hword⟩ | ⟨q, x, -, -, hword⟩ := h
  · obtain ⟨n, rfl, rfl⟩ := modeWord_eq_some hword
    have hcodes := codesOk_mode hc p n w
    rw [speedCode_packSelector hc hcodes.select_le hcodes.speed_le] at h3
    have hn : n.gigabit = true := by
      by_contra hm
      have hle := Mode.speedFor_le_one (Bool.eq_false_iff.mpr hm) (c.speedCode w)
      rw [h3] at hle
      exact absurd hle (by decide)
    rw [Mode.speedFor_of_gigabit hn] at h3
    exact ⟨h3, q, n, hi, hq, n.gigabit_iff.mp hn⟩
  · obtain ⟨code, hle, hodd, rfl⟩ := linkWord_eq_some hword
    have hcodes := codesOk_link hc hle hodd
    rw [speedCode_packSelector hc hcodes.select_le hcodes.speed_le] at h3
    rw [h3] at hle
    exact absurd hle (by decide)

end Sys2Proof
end

section
/-! SUPPORT. What changes a port's word (10_state.md R39, 40_interface_selector.md R121, R122): a selector operation on
that port that answers OK, and nothing else; no MDIO micro-step and no turn of LINE does. -/

namespace Sys2Proof.Machine

variable {s t : State}

/-! ## A selector operation, case by case -/

theorem State.portWord_toNat (s : State) (p : Half) :
    s.portWord p.toNat = if p = 0#16 then s.miictrl0 else s.miictrl1 := by
  have : p.toNat = 0 ↔ p = 0#16 := by bv_omega
  simp only [State.portWord, this]

/-- Every check passes: one load, one store with its read-back, response OK (R122). -/
theorem State.selectorNext_stores {p : Nat} {f : Word → Option Word} {v : Word} (hp : p < s.cfg.portCount)
    (hv : f (s.portWord p) = some v) :
    s.selectorNext p f = { s with
      miictrl0 := if p = 0 then v else s.miictrl0
      miictrl1 := if p = 0 then s.miictrl1 else v
      selSeq := .idle
      history := s.history ++ [.ld .selwin (s.cfg.portOffset p) (s.portWord p), .st .selwin (s.cfg.portOffset p) v,
        .ld .selwin (s.cfg.portOffset p) v, .resp (some .sel) .ok] } := by
  rw [State.selectorNext, if_neg (Nat.not_le_of_lt hp)]
  simp only [hv, State.loaded_portReg]
  by_cases h0 : p = 0
  · simp [h0, portReg, State.wrote_miictrl0, State.answerSel, State.record]
  · simp [h0, portReg, State.wrote_miictrl1, State.answerSel, State.record]

/-- The same for a request just accepted, the port written as the operand it is. -/
theorem State.openSel_selectorNext_stores (hs : s.selSeq = .idle) (i : Instr) {p : Half} {f : Word → Option Word}
    {v : Word} (hp : p.toNat < s.cfg.portCount) (hv : f (if p = 0#16 then s.miictrl0 else s.miictrl1) = some v) :
    (s.openSel i).selectorNext p.toNat f = { s with
      miictrl0 := if p = 0#16 then v else s.miictrl0
      miictrl1 := if p = 0#16 then s.miictrl1 else v
      history := s.history ++ [.req i, .ld .selwin (p.toNat * s.cfg.stride) (if p = 0#16 then s.miictrl0 else s.miictrl1),
        .st .selwin (p.toNat * s.cfg.stride) v, .ld .selwin (p.toNat * s.cfg.stride) v, .resp (some .sel) .ok] } := by
  have hword := (s.openSel i).portWord_toNat p
  have h0 : p.toNat = 0 ↔ p = 0#16 := by bv_omega
  rw [State.selectorNext_stores (s := s.openSel i) hp (hword ▸ hv), hword]
  simp [h0, ← hs, Config.portOffset]

/-- The port bound fails: a response and nothing else (R120). -/
theorem State.selectorNext_outOfRange {p : Nat} (f : Word → Option Word) (hp : s.cfg.portCount ≤ p) :
    s.selectorNext p f = s.answerSel (.error .invalidArgument) := if_pos hp

/-- A check after the load fails: the load and a response (R122, R134). -/
theorem State.selectorNext_refuses {p : Nat} {f : Word → Option Word} (hp : p < s.cfg.portCount)
    (hv : f (s.portWord p) = none) :
    s.selectorNext p f =
      (s.record (.ld .selwin (s.cfg.portOffset p) (s.portWord p))).answerSel (.error .invalidArgument) := by
  rw [State.selectorNext, if_neg (Nat.not_le_of_lt hp)]
  simp only [hv, State.loaded_portReg]

/-- What any selector operation does to the word of a port: nothing, with an error answered, or the store its checks
passed. -/
theorem State.selectorNext_portWord (hc : s.cfg.Valid) (p : Nat) (f : Word → Option Word) :
    ((∀ q, (s.selectorNext p f).portWord q = s.portWord q) ∧
        (s.selectorNext p f).history.getLast? = some (.resp (some .sel) (.error .invalidArgument))) ∨
      f (s.portWord p) = some ((s.selectorNext p f).portWord p) ∧
        ∀ q < 2, q ≠ p → (s.selectorNext p f).portWord q = s.portWord q := by
  by_cases hp : s.cfg.portCount ≤ p
  · rw [State.selectorNext_outOfRange f hp]
    exact .inl ⟨fun q => rfl, by simp⟩
  · have hlt := Nat.lt_of_not_le hp
    cases hv : f (s.portWord p) with
    | none =>
      rw [State.selectorNext_refuses hlt hv]
      exact .inl ⟨fun q => rfl, by simp⟩
    | some v =>
      rw [State.selectorNext_stores hlt hv]
      have hcount := hc.1.1
      refine .inr ⟨?_, fun q hq hne => ?_⟩
      · rw [State.portWord]
        split <;> rfl
      · by_cases h0 : p = 0
        · have : q ≠ 0 := h0 ▸ hne
          simp [State.portWord, h0, this]
        · have : q = 0 := by omega
          simp [State.portWord, h0, this]

/-! ## The MDIO side leaves the ports alone -/

/-- What a selector operation works on, and no MDIO operation touches (R2, R170): the configuration and the two port
words. -/
def State.selectorPart (s : State) : Config × Word × Word := (s.cfg, s.miictrl0, s.miictrl1)

/-- A port's word is part of it. -/
theorem State.portWord_of_selectorPart (h : t.selectorPart = s.selectorPart) (p : Nat) :
    t.portWord p = s.portWord p := by
  simp only [State.selectorPart, Prod.mk.injEq] at h
  obtain ⟨-, h0, h1⟩ := h
  exact State.portWord_congr h0 h1 p

section
variable (s : State)

@[simp] theorem State.record_selectorPart (e : Event) : (s.record e).selectorPart = s.selectorPart := rfl
@[simp] theorem State.delay_selectorPart (us : Nat) : (s.delay us).selectorPart = s.selectorPart := rfl
@[simp] theorem State.goTo_selectorPart (q : MdioSeq) : (s.goTo q).selectorPart = s.selectorPart := rfl
@[simp] theorem State.markReset_selectorPart : s.markReset.selectorPart = s.selectorPart := rfl
@[simp] theorem State.answerMdc_selectorPart (r : Result) : (s.answerMdc r).selectorPart = s.selectorPart := rfl
@[simp] theorem State.openMdc_selectorPart (i : Instr) (q : MdioSeq) : (s.openMdc i q).selectorPart = s.selectorPart := rfl
@[simp] theorem State.answerIllegal_selectorPart (w : RequestWord) :
    (s.answerIllegal w).selectorPart = s.selectorPart := rfl
@[simp] theorem State.clkQuery_selectorPart : s.clkQuery.2.selectorPart = s.selectorPart := by
  simp [State.selectorPart]
@[simp] theorem State.resetWithClock_selectorPart (q : Option Nat) :
    (s.resetWithClock q).selectorPart = s.selectorPart := by simp [State.selectorPart]
@[simp] theorem State.loaded_selectorPart (r : Reg) (win : Window) (off : Nat) :
    (s.loaded r win off).selectorPart = s.selectorPart := by simp [State.selectorPart]
@[simp] theorem State.polled_selectorPart : s.polled.selectorPart = s.selectorPart :=
  s.loaded_selectorPart .ind .mdiowin s.cfg.indOff

/-- A store to a register of the MDIO window does not reach a port. -/
@[simp] theorem State.wrote_selectorPart {r : Reg} (h0 : r ≠ .miictrl0) (h1 : r ≠ .miictrl1) (win : Window) (off : Nat)
    (v : Word) : (s.wrote r win off v).selectorPart = s.selectorPart := by
  cases r with
  | miictrl0 => exact absurd rfl h0
  | miictrl1 => exact absurd rfl h1
  | _ => simp [State.selectorPart, State.wrote, State.storeReg]

/-- A micro-step of a wait does, if its continuations do. -/
theorem State.waitNext_selectorPart (pos : WaitPos) (again : WaitPos → MdioSeq) {notBusy timedOut : State → State}
    (hn : ∀ u : State, (notBusy u).selectorPart = u.selectorPart)
    (ht : ∀ u : State, (timedOut u).selectorPart = u.selectorPart) :
    (s.waitNext pos again notBusy timedOut).selectorPart = s.selectorPart := by
  match pos with
  | .poll 0 => simp [State.waitNext, ht]
  | .poll (n + 1) =>
    simp only [State.waitNext]
    split <;> simp [hn]
  | .delay n => simp [State.waitNext]

theorem State.resetNext_selectorPart (pos : ResetPos) : (s.resetNext pos).selectorPart = s.selectorPart := by
  cases pos <;> simp [State.resetNext]

theorem State.readNext_selectorPart (a r : Half) (pos : ReadPos) : (s.readNext a r pos).selectorPart = s.selectorPart := by
  cases pos with
  | firstWait w => exact s.waitNext_selectorPart w _ (fun _ => rfl) fun _ => rfl
  | secondWait w => exact s.waitNext_selectorPart w _ (fun _ => rfl) fun _ => rfl
  | _ => simp [State.readNext]

theorem State.writeNext_selectorPart (a r v : Half) (pos : WritePos) :
    (s.writeNext a r v pos).selectorPart = s.selectorPart := by
  cases pos with
  | finalWait w => exact s.waitNext_selectorPart w _ (fun _ => rfl) fun _ => rfl
  | _ => simp [State.writeNext]

@[simp] theorem State.mdcNext_selectorPart : s.mdcNext.selectorPart = s.selectorPart := by
  unfold State.mdcNext
  split
  · rfl
  · exact s.resetNext_selectorPart _
  · exact s.waitNext_selectorPart _ _ (fun _ => rfl) fun _ => rfl
  · exact s.readNext_selectorPart _ _ _
  · exact s.writeNext_selectorPart _ _ _ _

@[simp] theorem State.mdcStart_selectorPart (i : Instr) : (s.mdcStart i).selectorPart = s.selectorPart := by
  unfold State.mdcStart
  split
  · split <;> simp
  · simp

end

/-- No MDIO operation touches the configuration or a port's word. -/
theorem exec_mdc_selectorPart (h : s.cfg.Valid) {i : Instr} (hi : componentOf i = .mdc) (hx : exec i s = .next t) :
    t.selectorPart = s.selectorPart := by
  obtain ⟨-, rfl⟩ | ⟨-, rfl⟩ := exec_mdc_cases h hi hx <;> simp

/-! ## What a step does to the word of a port -/

/-- The two operations of `SEL`, with the port they name (R92). -/
theorem exists_port_of_sel {i : Instr} (hi : componentOf i = .sel) :
    ∃ p, (∃ m, i = .setInterfaceMode p m) ∨ ∃ v, i = .setLinkSpeed p v := by
  cases i with
  | setInterfaceMode p m => exact ⟨p, .inl ⟨m, rfl⟩⟩
  | setLinkSpeed p v => exact ⟨p, .inr ⟨v, rfl⟩⟩
  | _ => cases hi

/-- A selector operation that answers keeps the configuration; it answers an error and stores nothing, or stores the
word of its port. -/
theorem exec_sel_cases (hc : s.cfg.Valid) {i : Instr} {p : Half}
    (hi : (∃ m, i = .setInterfaceMode p m) ∨ ∃ v, i = .setLinkSpeed p v) (hx : exec i s = .next t) :
    t.cfg = s.cfg ∧
      (((∀ q, t.portWord q = s.portWord q) ∧ t.history.getLast? = some (.resp (some .sel) (.error .invalidArgument))) ∨
        s.cfg.StoresWord i p.toNat (s.portWord p.toNat) (t.portWord p.toNat) ∧
          ∀ q < 2, q ≠ p.toNat → t.portWord q = s.portWord q) := by
  have hopen : (s.openSel i).cfg.Valid := hc
  have hcfg (f : Word → Option Word) : ((s.openSel i).selectorNext p.toNat f).cfg = s.cfg := by
    rw [State.selectorNext_frame]
    rfl
  obtain ⟨m, rfl⟩ | ⟨v, rfl⟩ := hi
  · rw [exec_setInterfaceMode hc (exec_sel_idle rfl hx)] at hx
    cases hx
    refine ⟨hcfg _, (State.selectorNext_portWord hopen _ _).imp id ?_⟩
    exact And.imp (fun hword => .inl ⟨p, m, rfl, rfl, hword⟩) id
  · rw [exec_setLinkSpeed hc (exec_sel_idle rfl hx)] at hx
    cases hx
    refine ⟨hcfg _, (State.selectorNext_portWord hopen _ _).imp id ?_⟩
    exact And.imp (fun hword => .inr ⟨p, v, rfl, rfl, hword⟩) id

/-- Whatever an operation is, the word of a port after it is the word before or one the operation stored over it. -/
theorem exec_portWord (hc : s.cfg.Valid) {i : Instr} (hx : exec i s = .next t) :
    t.cfg = s.cfg ∧
      ∀ p < 2, t.portWord p = s.portWord p ∨ s.cfg.StoresWord i p (s.portWord p) (t.portWord p) := by
  cases hi : componentOf i with
  | mdc =>
    have hpart := exec_mdc_selectorPart hc hi hx
    exact ⟨congrArg Prod.fst hpart, fun p _ => .inl (State.portWord_of_selectorPart hpart p)⟩
  | sel =>
    obtain ⟨port, hport⟩ := exists_port_of_sel hi
    obtain ⟨hcfg, hcase⟩ := exec_sel_cases hc hport hx
    refine ⟨hcfg, fun p hp => ?_⟩
    obtain ⟨hsame, -⟩ | ⟨hstore, hothers⟩ := hcase
    · exact .inl (hsame p)
    · by_cases hq : p = port.toNat
      · exact .inr (hq ▸ hstore)
      · exact .inl (hothers p hp hq)

/-- The same of a whole step of the machine. -/
theorem step_portWord (h : step s = .next t) :
    t.cfg = s.cfg ∧
      ∀ p < 2, t.portWord p = s.portWord p ∨ ∃ i, s.cfg.StoresWord i p (s.portWord p) (t.portWord p) := by
  obtain ⟨hc, u, ⟨rs, rfl⟩, hcase⟩ := step_cases h
  have hkept : ∀ v : State, v.selectorPart = s.lineTurn.selectorPart → v.cfg = s.cfg ∧
      ∀ p < 2, v.portWord p = s.portWord p ∨ ∃ i, s.cfg.StoresWord i p (s.portWord p) (v.portWord p) := fun v hv =>
    ⟨(congrArg Prod.fst hv).trans s.lineTurn_cfg,
      fun p _ => .inl ((State.portWord_of_selectorPart hv p).trans (s.lineTurn_portWord p))⟩
  obtain ⟨rfl, -⟩ | ⟨w, rfl⟩ | ⟨i, -, hx⟩ | ⟨i, -, -, rfl⟩ | ⟨-, rfl⟩ := hcase
  · exact hkept _ rfl
  · exact hkept _ (State.answerIllegal_selectorPart _ w)
  · have hu : ({ s.lineTurn with requests := rs } : State).cfg = s.cfg := s.lineTurn_cfg
    obtain ⟨hcfg, hword⟩ := exec_portWord (hu ▸ hc) hx
    refine ⟨hcfg.trans hu, fun p hp => ?_⟩
    have hp' : ({ s.lineTurn with requests := rs } : State).portWord p = s.portWord p := s.lineTurn_portWord p
    have := hword p hp
    rw [hp', hu] at this
    exact this.imp id fun hstore => ⟨i, hstore⟩
  · exact hkept _ (State.mdcStart_selectorPart _ i)
  · exact hkept _ (State.mdcNext_selectorPart _)

end Sys2Proof.Machine
end

section
/-! SUPPORT. The statements about `set_interface_mode` and about the stored selector words (40_interface_selector.md
R126 to R128, R136). -/

namespace Sys2Proof

open Machine

/-- The select code of a mode on a port: the low bit of it on port 1 (R25, D3). -/
theorem Mode.code_and_selectMask (m : Mode) (p : Half) :
    m.code &&& selectMask p.toNat =
      match m with
      | .gmii => 0
      | .mii => 1
      | .rgmii => if p = 1#16 then 0 else 2
      | .rmii => if p = 1#16 then 1 else 3 := by
  have hp : p.toNat = 1 ↔ p = 1#16 := by bv_omega
  by_cases h1 : p = 1#16 <;> cases m <;> simp [Mode.code, selectMask, hp, h1]

/-- The speed code of a mode: kept, or at most the code of 100 Mbps (R126). -/
theorem Mode.speedFor_eq (m : Mode) (cur : Word) :
    m.speedFor cur =
      match m with
      | .gmii => cur
      | .rgmii => cur
      | .mii => if cur = 0 then 0 else 1
      | .rmii => if cur = 0 then 0 else 1 := by
  have hclamp : (if cur ≤ 1#32 then cur else 1#32) = if cur = 0#32 then 0#32 else 1#32 := by
    split <;> split <;> bv_omega
  cases m with
  | gmii => rfl
  | mii => exact hclamp
  | rgmii => rfl
  | rmii => exact hclamp

/-- Settles O11: the checks pass, so the word packed from the two codes is stored, and it is its own read-back. -/
theorem setInterfaceModeAccepts : Obligations.SetInterfaceModeAccepts := by
  intro s p m hc hidle hp hport hgigabit w cur sel spd new off
  have hword : s.cfg.modeWord p.toNat (.named m) w = some new := by
    rw [Config.modeWord_named (fun h => by rw [hport (m.port0Only_iff.mp h)]; rfl)
      fun h => hgigabit (m.gigabit_iff.mp h), Mode.code_and_selectMask, Mode.speedFor_eq]
    rfl
  refine ⟨new, ?_⟩
  rw [exec_setInterfaceMode hc hidle, State.openSel_selectorNext_stores hidle _ hp hword]

/-- R136 (a) to (c) of a port are those of the word it holds. -/
theorem portWordOk_iff (s : State) (p : Nat) : s.PortWordOk p ↔ s.cfg.WordOk p (s.portWord p) := Iff.rfl

/-- A port has R136 (a) to (c) when its word is one a selector operation stored. -/
theorem portWordOk_of_storesWord {s t : State} {i : Instr} {p : Nat} {w : Word} (hc : s.cfg.Valid)
    (hcfg : t.cfg = s.cfg) (h : s.cfg.StoresWord i p w (t.portWord p)) : t.PortWordOk p := by
  rw [portWordOk_iff, hcfg]
  exact h.wordOk hc.2.1

/-- Settles O16: a port's word is only ever replaced by one that an operation stores, and a stored word has the
invariants whatever it is stored over. -/
theorem selectorWordAfterSuccess : Obligations.SelectorWordAfterSuccess := by
  refine ⟨fun s t i p hc hi hx hok => ?_, fun s t p hc hp hok hx => ?_,
    fun s t p hc hp h3 => ⟨fun i hx => ?_, fun hx => ?_⟩⟩
  · obtain ⟨hcfg, ⟨-, herror⟩ | ⟨hstore, -⟩⟩ := exec_sel_cases hc hi hx
    · rw [herror] at hok
      cases hok
    · have := portWordOk_of_storesWord hc hcfg hstore
      simpa only [State.PortWordOk, State.speedCode, State.portWord_toNat, hcfg] using this
  · obtain ⟨hcfg, hword⟩ := step_portWord hx
    obtain hsame | ⟨i, hstore⟩ := hword p hp
    · simpa only [State.PortWordOk, State.speedCode, hsame, hcfg] using hok
    · exact portWordOk_of_storesWord hc hcfg hstore
  · obtain ⟨hcfg, hword⟩ := exec_portWord hc hx
    rw [State.speedCode, hcfg] at h3
    obtain hsame | hstore := hword p hp
    · rw [hsame] at h3
      exact ⟨h3, .inl hsame⟩
    · obtain ⟨hbefore, hmode⟩ := hstore.speedCode_three hc.2.1 h3
      exact ⟨hbefore, .inr hmode⟩
  · obtain ⟨hcfg, hword⟩ := step_portWord hx
    rw [State.speedCode, hcfg] at h3
    obtain hsame | ⟨i, hstore⟩ := hword p hp
    · rw [hsame] at h3
      exact h3
    · exact (hstore.speedCode_three hc.2.1 h3).1

end Sys2Proof
end

section
/-! SUPPORT. How an open MDIO operation runs to its end (41_mdio_controller.md R164): what one micro-step adds and where
it leads, and, by one induction over the steps its position still allows, the run to the response. -/

namespace Sys2Proof.Machine

variable {s t u : State} {evs : List Event}

/-! ## Steps of a serial host -/

/-- With a serial host an open operation goes on, whatever is requested next (R101). -/
theorem step_open (hc : s.cfg.Valid) (hserial : s.SerialHost) {i : Instr} (hi : s.mdioSeq.instr = some i) :
    step s = .next s.lineTurn.mdcNext := by
  have hi' : s.lineTurn.mdioSeq.instr = some i := by simpa using hi
  have hopen : s.lineTurn.mdioSeq ≠ .idle := fun h0 => by rw [h0] at hi'; cases hi'
  have hturn : s.lineTurn.turn = .run i s.lineTurn := by
    have hgoOn : s.lineTurn.goOn = .run i s.lineTurn := by simp only [State.goOn, hi']
    unfold State.turn
    cases hr : s.lineTurn.requests with
    | nil => exact hgoOn
    | cons q qs =>
      have hq : q.overlap = none := hserial q (by rw [← s.lineTurn_requests, hr]; exact .head _)
      simp only [hq, if_neg hopen, hgoOn]
  rw [step_valid hc, hturn]
  exact exec_open (by simpa using hc) hi'

/-- The state in which a request is carried out: after LINE's opportunity, with the request off the list. -/
def State.takeRequest (s : State) (rest : List Request) : State := { s.lineTurn with requests := rest }

@[simp] theorem State.takeRequest_cfg (s : State) (rest : List Request) : (s.takeRequest rest).cfg = s.cfg :=
  s.lineTurn_cfg
@[simp] theorem State.takeRequest_mdioSeq (s : State) (rest : List Request) :
    (s.takeRequest rest).mdioSeq = s.mdioSeq := s.lineTurn_mdioSeq
@[simp] theorem State.takeRequest_selSeq (s : State) (rest : List Request) :
    (s.takeRequest rest).selSeq = s.selSeq := s.lineTurn_selSeq
@[simp] theorem State.takeRequest_requests (s : State) (rest : List Request) :
    (s.takeRequest rest).requests = rest := rfl
@[simp] theorem State.takeRequest_history (s : State) (rest : List Request) :
    (s.takeRequest rest).history = s.history := s.lineTurn_history

/-- With the sequencer idle a serial host's next request is taken off the list and carried out. -/
theorem step_request (hc : s.cfg.Valid) (hserial : s.SerialHost) (hidle : s.mdioSeq = .idle) {q : Request}
    {qs : List Request} (hr : s.requests = q :: qs) {i : Instr} (hi : decode q.word = .op i) :
    step s = exec i (s.takeRequest qs) := by
  have hidle' : s.lineTurn.mdioSeq = .idle := by simpa using hidle
  have hq : q.overlap = none := hserial q (by simp [hr])
  have hturn : s.lineTurn.turn = .run i (s.takeRequest qs) := by
    unfold State.turn
    rw [s.lineTurn_requests, hr]
    simp only [hq, State.issue, hi, hidle', if_true, ne_eq, not_true_eq_false, and_false, if_false,
      State.takeRequest]
  rw [step_valid hc, hturn]

/-- The same for an operation of the MdioController, which makes its first micro-step. -/
theorem step_request_mdc (hc : s.cfg.Valid) (hserial : s.SerialHost) (hidle : s.mdioSeq = .idle) {q : Request}
    {qs : List Request} (hr : s.requests = q :: qs) {i : Instr} (hi : decode q.word = .op i)
    (hmdc : componentOf i = .mdc) : step s = .next ((s.takeRequest qs).mdcStart i) := by
  rw [step_request hc hserial hidle hr hi, exec_start (by simpa using hc) (by simpa using hidle) hmdc]

/-! ## One micro-step -/

/-- From `s` to `u` the MdioController records `evs`, none of them a response, and leaves alone what is not its own. -/
structure State.Proceeds (s : State) (evs : List Event) (u : State) : Prop where
  cfg : u.cfg = s.cfg
  requests : u.requests = s.requests
  selSeq : u.selSeq = s.selSeq
  history : u.history = s.history ++ evs
  quiet : ∀ e ∈ evs, e.result = none

theorem State.Proceeds.record (h : s.Proceeds evs u) {e : Event} (he : e.result = none) :
    s.Proceeds (evs ++ [e]) (u.record e) where
  cfg := h.cfg
  requests := h.requests
  selSeq := h.selSeq
  history := by simp [h.history]
  quiet := by simpa [or_imp, forall_and, he] using h.quiet

theorem State.Proceeds.markReset (h : s.Proceeds evs u) : s.Proceeds evs u.markReset :=
  ⟨h.cfg, h.requests, h.selSeq, h.history, h.quiet⟩

/-- Moving to a position and LINE's opportunity record nothing. -/
theorem State.Proceeds.goTo_lineTurn (h : s.Proceeds evs u) (q : MdioSeq) : s.Proceeds evs (u.goTo q).lineTurn where
  cfg := by simp [h.cfg]
  requests := by simp [h.requests]
  selSeq := by simp [h.selSeq]
  history := by simp [h.history]
  quiet := h.quiet

theorem State.Proceeds.valid (h : s.Proceeds evs u) (hc : s.cfg.Valid) : u.cfg.Valid := h.cfg ▸ hc

theorem State.Proceeds.serialHost (h : s.Proceeds evs u) (hserial : s.SerialHost) : u.SerialHost := by
  simpa only [State.SerialHost, h.requests] using hserial

theorem State.proceeds_record (s : State) {e : Event} (he : e.result = none) : s.Proceeds [e] (s.record e) :=
  ⟨rfl, rfl, rfl, rfl, by simpa using he⟩

theorem State.proceeds_delay (s : State) (us : Nat) : s.Proceeds [.delay us] (s.delay us) := s.proceeds_record rfl

theorem State.proceeds_loaded (s : State) (r : Reg) (win : Window) (off : Nat) :
    s.Proceeds [.ld win off (s.lineLoad r).1] (s.loaded r win off) :=
  ⟨by simp, by simp, by simp, by simp, by simp [Event.result]⟩

theorem State.proceeds_polled (s : State) :
    s.Proceeds [.ld .mdiowin s.cfg.indOff (s.lineLoad .ind).1] s.polled := s.proceeds_loaded _ _ _

theorem State.proceeds_wrote (s : State) (r : Reg) (win : Window) (off : Nat) (v : Word) :
    s.Proceeds [.st win off v, .ld win off v] (s.wrote r win off v) :=
  ⟨by simp, by simp, by simp, by simp, by simp [Event.result]⟩

theorem State.proceeds_clkQuery (s : State) (q : Option Nat) :
    s.Proceeds [.clkQuery s.clkQuery.1] { s.clkQuery.2 with refRate := q } :=
  ⟨by simp, by simp, by simp, by simp, by simp [Event.result]⟩

/-- A micro-step of the open operation `i` at `s` (R39): it goes on at a position nearer to its end, or it sends the one
response, of a kind R212 gives it. -/
inductive State.MicroStep (s : State) (i : Instr) : State → Prop
  | goesOn {evs : List Event} {u : State} {q : MdioSeq} (hu : s.Proceeds evs u) (hi : q.instr = some i)
      (hlt : q.stepsLeft s.cfg.retryBudget < s.mdioSeq.stepsLeft s.cfg.retryBudget) : s.MicroStep i (u.goTo q)
  | answers {evs : List Event} {u : State} {r : Result} (hu : s.Proceeds evs u) (hr : resultAllowed i r = true) :
      s.MicroStep i (u.answerMdc r)

/-- A wait goes on with fewer steps left, or its load or diagnostic is followed by what ends it (R156). -/
theorem State.waitNext_microStep {i : Instr} {pos : WaitPos} {again : WaitPos → MdioSeq}
    {notBusy timedOut : State → State} {rest : Nat} (hs : s.mdioSeq = again pos)
    (hi : ∀ p, (again p).instr = some i) (hleft : ∀ p, (again p).stepsLeft s.cfg.retryBudget = p.stepsLeft + rest)
    (hn : ∀ {evs u}, s.Proceeds evs u → s.MicroStep i (notBusy u))
    (ht : ∀ {evs u}, s.Proceeds evs u → s.MicroStep i (timedOut u)) :
    s.MicroStep i (s.waitNext pos again notBusy timedOut) := by
  match pos with
  | .poll 0 => exact ht (s.proceeds_record rfl)
  | .poll (n + 1) =>
    rw [State.waitNext]
    split
    · exact .goesOn s.proceeds_polled (hi _) (by simp only [hs, hleft, WaitPos.stepsLeft]; omega)
    · exact hn s.proceeds_polled
  | .delay n =>
    exact .goesOn (s.proceeds_delay _) (hi _) (by simp only [hs, hleft, WaitPos.stepsLeft]; omega)

theorem WaitPos.stepsLeft_pos (w : WaitPos) : 0 < w.stepsLeft := by
  cases w <;> simp [WaitPos.stepsLeft]

@[simp] theorem WaitPos.stepsLeft_fullWait (c : Config) :
    (Config.fullWait c).stepsLeft = 2 * c.retryBudget + 1 := rfl

theorem State.resetNext_microStep {pos : ResetPos} (hs : s.mdioSeq = .reset pos) :
    s.MicroStep .reset (s.resetNext pos) := by
  cases pos with
  | query =>
    simp only [State.resetNext, State.resetWithClock]
    split
    · exact .answers (s.proceeds_clkQuery _) rfl
    · exact .goesOn (s.proceeds_clkQuery _) rfl (by simp [hs, MdioSeq.stepsLeft])
  | assert d => exact .goesOn (s.proceeds_wrote _ _ _ _) rfl (by simp [hs, MdioSeq.stepsLeft])
  | settleAsserted d => exact .goesOn (s.proceeds_delay _) rfl (by simp [hs, MdioSeq.stepsLeft])
  | release d => exact .goesOn (s.proceeds_wrote _ _ _ _) rfl (by simp [hs, MdioSeq.stepsLeft])
  | settleReleased => exact .answers (s.proceeds_delay _).markReset rfl

theorem State.waitOpNext_microStep {pos : WaitPos} (hs : s.mdioSeq = .waitNotBusy pos) :
    s.MicroStep .waitNotBusy (s.waitOpNext pos) := by
  rw [State.waitOpNext]
  exact State.waitNext_microStep (rest := 0) hs (fun _ => rfl) (fun _ => rfl) (fun hu => .answers hu rfl)
    fun hu => .answers hu rfl

theorem State.readNext_microStep {a r : Half} {pos : ReadPos} (hs : s.mdioSeq = .read a r pos) :
    s.MicroStep (.read a r) (s.readNext a r pos) := by
  cases pos with
  | firstWait w =>
    have hw := w.stepsLeft_pos
    rw [State.readNext]
    refine State.waitNext_microStep hs (fun _ => rfl) (fun _ => rfl) (fun hu => .goesOn hu rfl ?_)
      fun hu => .answers hu rfl
    simp only [hs, MdioSeq.stepsLeft]
    omega
  | secondWait w =>
    have hw := w.stepsLeft_pos
    rw [State.readNext]
    refine State.waitNext_microStep hs (fun _ => rfl) (fun _ => rfl) (fun hu => .goesOn hu rfl ?_)
      fun hu => .goesOn hu rfl ?_
    · simp only [hs, MdioSeq.stepsLeft]
      omega
    · simp only [hs, MdioSeq.stepsLeft]
      omega
  | storeIdle => exact .goesOn (s.proceeds_wrote _ _ _ _) rfl (by simp [hs, MdioSeq.stepsLeft])
  | storeAddr => exact .goesOn (s.proceeds_wrote _ _ _ _) rfl (by simp [hs, MdioSeq.stepsLeft])
  | storeRead => exact .goesOn (s.proceeds_wrote _ _ _ _) rfl (by simp [hs, MdioSeq.stepsLeft])
  | abort => exact .answers (s.proceeds_wrote _ _ _ _) rfl
  | loadStatus => exact .goesOn (s.proceeds_loaded _ _ _) rfl (by simp [hs, MdioSeq.stepsLeft])
  | storeBack v => exact .answers ((s.proceeds_wrote _ _ _ _).record rfl) (decide_eq_true v.isLt)

theorem State.writeNext_microStep {a r v : Half} {pos : WritePos} (hs : s.mdioSeq = .write a r v pos) :
    s.MicroStep (.write a r v) (s.writeNext a r v pos) := by
  cases pos with
  | storeAddr => exact .goesOn (s.proceeds_wrote _ _ _ _) rfl (by simp [hs, MdioSeq.stepsLeft])
  | storeCtrl =>
    exact .goesOn ((s.proceeds_wrote _ _ _ _).record rfl) rfl (by simp [hs, MdioSeq.stepsLeft])
  | finalWait w =>
    rw [State.writeNext]
    exact State.waitNext_microStep (rest := 0) hs (fun _ => rfl) (fun _ => rfl) (fun hu => .answers hu rfl)
      fun hu => .answers hu rfl

/-- What any step of an open operation does. -/
theorem State.mdcNext_microStep {i : Instr} (hi : s.mdioSeq.instr = some i) : s.MicroStep i s.mdcNext := by
  unfold State.mdcNext
  cases hs : s.mdioSeq with
  | idle => rw [hs] at hi; cases hi
  | reset pos => rw [hs] at hi; cases hi; exact State.resetNext_microStep hs
  | waitNotBusy pos => rw [hs] at hi; cases hi; exact State.waitOpNext_microStep hs
  | read a r pos => rw [hs] at hi; cases hi; exact State.readNext_microStep hs
  | write a r v pos => rw [hs] at hi; cases hi; exact State.writeNext_microStep hs

/-! ## The run to the response -/

/-- `k` steps lead from `u` to `t`, whose sequencer is idle; compared with `s` the history has gained `evs`, none of them
a response, and then the response `r`. -/
structure State.Answered (s u : State) (k : Nat) (evs : List Event) (r : Result) (t : State) : Prop where
  run : runSteps k u = .next t
  idle : t.mdioSeq = .idle
  requests : t.requests = s.requests
  selSeq : t.selSeq = s.selSeq
  history : t.history = s.history ++ (evs ++ [.resp (some .mdc) r])
  quiet : ∀ e ∈ evs, e.result = none

theorem State.Proceeds.answered (h : s.Proceeds evs u) (r : Result) :
    s.Answered (u.answerMdc r) 0 evs r (u.answerMdc r) :=
  ⟨rfl, rfl, h.requests, h.selSeq, by simp [h.history], h.quiet⟩

/-- The run from a position is its micro-step, then the run from there. -/
theorem State.Proceeds.answered_goTo {es : List Event} {k : Nat} {r : Result} {q : MdioSeq} {i : Instr}
    (h : s.Proceeds es u) (hc : s.cfg.Valid) (hserial : s.SerialHost) (hi : q.instr = some i)
    (hrest : (u.goTo q).lineTurn.Answered (u.goTo q).lineTurn.mdcNext k evs r t) :
    s.Answered (u.goTo q) (k + 1) (es ++ evs) r t := by
  have hstep : step (u.goTo q) = .next (u.goTo q).lineTurn.mdcNext :=
    step_open (h.valid hc) (h.serialHost hserial) hi
  have hturn := h.goTo_lineTurn q
  refine ⟨?_, hrest.idle, hrest.requests.trans hturn.requests, hrest.selSeq.trans hturn.selSeq, ?_, ?_⟩
  · rw [runSteps, hstep]
    exact hrest.run
  · rw [hrest.history, hturn.history]
    simp
  · simpa [or_imp, forall_and] using And.intro h.quiet hrest.quiet

/-- An open operation is one of the four that can be open. -/
theorem MdioSeq.exists_instr {q : MdioSeq} (hq : q ≠ .idle) : ∃ i, q.instr = some i := by
  cases q with
  | idle => exact absurd rfl hq
  | _ => exact ⟨_, rfl⟩

/-- An open operation has a step left. -/
theorem MdioSeq.stepsLeft_pos {q : MdioSeq} {i : Instr} (hi : q.instr = some i) (budget : Nat) :
    0 < q.stepsLeft budget := by
  cases q with
  | idle => cases hi
  | reset pos => cases pos <;> simp [MdioSeq.stepsLeft]
  | waitNotBusy w => exact w.stepsLeft_pos
  | read a r pos => cases pos <;> simp [MdioSeq.stepsLeft]
  | write a r v pos =>
    cases pos with
    | finalWait w => exact w.stepsLeft_pos
    | _ => simp [MdioSeq.stepsLeft]

/-- The open operation's next micro-step and fewer further steps than its position allows lead to the response (R164). -/
theorem State.mdcNext_answered {i : Instr} (hc : s.cfg.Valid) (hserial : s.SerialHost) (hi : s.mdioSeq.instr = some i) :
    ∃ k evs r t, k < s.mdioSeq.stepsLeft s.cfg.retryBudget ∧ s.Answered s.mdcNext k evs r t ∧
      resultAllowed i r = true := by
  induction hn : s.mdioSeq.stepsLeft s.cfg.retryBudget using Nat.strong_induction_on generalizing s with
  | _ n ih =>
    have hmicro := State.mdcNext_microStep hi
    generalize s.mdcNext = u at hmicro
    cases hmicro with
    | answers hu hr =>
      exact ⟨0, _, _, _, hn ▸ MdioSeq.stepsLeft_pos hi _, hu.answered _, hr⟩
    | @goesOn evs u q hu hi' hlt =>
      have hturn := hu.goTo_lineTurn q
      obtain ⟨k, evs', r, t, hk, hrun, hr⟩ := ih (q.stepsLeft s.cfg.retryBudget) (hn ▸ hlt) (hturn.valid hc)
        (hturn.serialHost hserial) (by simpa using hi') (by simp [hu.cfg])
      exact ⟨k + 1, _, r, t, by omega, hu.answered_goTo hc hserial hi' hrun, hr⟩

theorem State.lineTurn_serialHost (hserial : s.SerialHost) : s.lineTurn.SerialHost := by
  rw [State.SerialHost, s.lineTurn_requests]
  exact hserial

/-! ## From the request -/

/-- An accepted MDIO request makes the first micro-step of its operation; `compute_divider` answers at once (R150). -/
theorem State.mdcStart_cases (s : State) {i : Instr} (hi : componentOf i = .mdc) :
    (∃ r, s.mdcStart i = (s.openMdc i .idle).answerMdc r ∧ resultAllowed i r = true) ∨
      ((firstPos s.cfg i).instr = some i ∧ s.mdcStart i = (s.openMdc i (firstPos s.cfg i)).mdcNext) := by
  cases i with
  | setInterfaceMode p m => cases hi
  | setLinkSpeed p v => cases hi
  | computeDivider =>
    unfold State.mdcStart
    cases s.cfg.divider s.refRate with
    | none => exact .inl ⟨_, rfl, rfl⟩
    | some d => exact .inl ⟨_, rfl, rfl⟩
  | _ => exact .inr ⟨rfl, rfl⟩

/-- The first micro-step of an MDIO operation whose request has been accepted, and the steps after it (R39, R164). -/
theorem State.mdcStart_answered {i : Instr} (hc : s.cfg.Valid) (hserial : s.SerialHost) (hi : componentOf i = .mdc) :
    ∃ k evs r t, k ≤ (firstPos s.cfg i).stepsLeft s.cfg.retryBudget - 1 ∧
      (s.record (.req i)).Answered (s.mdcStart i) k evs r t ∧ resultAllowed i r = true := by
  obtain ⟨r, hstart, hr⟩ | ⟨hfirst, hstart⟩ := s.mdcStart_cases hi
  · have hcall : (s.record (.req i)).Proceeds [] (s.openMdc i .idle) := ⟨rfl, rfl, rfl, by simp, by simp⟩
    rw [hstart]
    exact ⟨0, [], r, _, Nat.zero_le _, hcall.answered r, hr⟩
  · obtain ⟨k, evs, r, t, hk, ⟨hrun, hidle, hreq, hsel, hhist, hquiet⟩, hr⟩ :=
      State.mdcNext_answered (s := s.openMdc i (firstPos s.cfg i)) hc hserial hfirst
    rw [hstart]
    exact ⟨k, evs, r, t, Nat.le_sub_one_of_lt hk, ⟨hrun, hidle, hreq, hsel, hhist, hquiet⟩, hr⟩

end Sys2Proof.Machine
end

section
/-! SUPPORT. The loads of a wait (41_mdio_controller.md R156, R157): the budget is used up, or the first clear load ends
it. -/

namespace Sys2Proof.Machine

variable {s : State}

/-- The Indicator words a wait with `n` polls left loads, and its result (R156): a busy word costs one poll, a clear one
is the last, and with no poll left the wait has timed out. -/
inductive WaitLoads (c : Config) : Nat → List Word → Result → Prop
  | timedOut : WaitLoads c 0 [] (.error .timeout)
  | clear {n : Nat} {v : Word} (hv : c.busyIn v = false) : WaitLoads c (n + 1) [v] .ok
  | busy {n : Nat} {v : Word} {vs : List Word} {r : Result} (hv : c.busyIn v = true) (hrest : WaitLoads c n vs r) :
      WaitLoads c (n + 1) (v :: vs) r

/-- R157: OK at the first clear load, within the budget, or Timeout with the whole budget used on busy loads. -/
theorem WaitLoads.exact_budget {c : Config} {n : Nat} {vs : List Word} {r : Result} (h : WaitLoads c n vs r) :
    (r = .ok ∧ 1 ≤ vs.length ∧ vs.length ≤ n ∧ (∀ v ∈ vs.dropLast, c.busyIn v = true) ∧
        ∀ v ∈ vs.getLast?, c.busyIn v = false) ∨
      (r = .error .timeout ∧ vs.length = n ∧ ∀ v ∈ vs, c.busyIn v = true) := by
  induction h with
  | timedOut => simp
  | clear hv => simp [hv]
  | @busy n v vs r hv hrest ih =>
    obtain ⟨hr, hpos, hle, hinit, hlast⟩ | ⟨hr, hlen, hall⟩ := ih
    · have hne : vs ≠ [] := List.ne_nil_of_length_pos hpos
      refine .inl ⟨hr, by simp, by simpa using hle, ?_, ?_⟩
      · simpa [List.dropLast_cons_of_ne_nil hne, hv] using hinit
      · simpa [List.getLast?_cons_of_ne_nil hne] using hlast
    · exact .inr ⟨hr, by simp [hlen], by simpa [hv] using hall⟩

theorem State.mdcNext_waitNotBusy {pos : WaitPos} (hs : s.mdioSeq = .waitNotBusy pos) :
    s.mdcNext = s.waitNext pos .waitNotBusy (fun t => t.answerMdc .ok) fun t => t.answerMdc (.error .timeout) := by
  rw [State.mdcNext, hs]
  rfl

/-- A `wait_not_busy` runs from any of its positions to its response, with the loads of the polls it has left. -/
theorem State.waitNotBusy_answered {pos : WaitPos} (hc : s.cfg.Valid) (hserial : s.SerialHost)
    (hs : s.mdioSeq = .waitNotBusy pos) :
    ∃ k evs r t, s.Answered s.mdcNext k evs r t ∧
      WaitLoads s.cfg pos.pollsLeft (evs.filterMap (Event.indWord s.cfg)) r := by
  induction hn : pos.stepsLeft using Nat.strong_induction_on generalizing s pos with
  | _ n ih =>
    have hgoTo : ∀ {es : List Event} {u : State} {p : WaitPos}, s.Proceeds es u → p.stepsLeft < n →
        ∃ k evs r t, s.Answered (u.goTo (.waitNotBusy p)) k (es ++ evs) r t ∧
          WaitLoads s.cfg p.pollsLeft (evs.filterMap (Event.indWord s.cfg)) r := by
      intro es u p hu hlt
      have hturn := hu.goTo_lineTurn (.waitNotBusy p)
      obtain ⟨k, evs, r, t, hrun, hloads⟩ :=
        ih p.stepsLeft hlt (hturn.valid hc) (hturn.serialHost hserial) (by simp) rfl
      exact ⟨k + 1, evs, r, t, hu.answered_goTo hc hserial rfl hrun, hturn.cfg ▸ hloads⟩
    have hword : Event.indWord s.cfg (.ld .mdiowin s.cfg.indOff (s.lineLoad .ind).1) = some (s.lineLoad .ind).1 :=
      if_pos rfl
    rw [State.mdcNext_waitNotBusy hs]
    match pos with
    | .poll 0 => exact ⟨0, [.diag], _, _, (s.proceeds_record rfl).answered _, .timedOut⟩
    | .poll (m + 1) =>
      rw [State.waitNext]
      cases hb : s.cfg.busyIn (s.lineLoad .ind).1 with
      | false =>
        refine ⟨0, _, _, _, s.proceeds_polled.answered _, ?_⟩
        rw [List.filterMap_cons_some hword]
        exact .clear hb
      | true =>
        obtain ⟨k, evs, r, t, hrun, hloads⟩ := hgoTo (p := .delay m) s.proceeds_polled
          (by simp only [WaitPos.stepsLeft] at hn ⊢; omega)
        refine ⟨k, _, r, t, hrun, ?_⟩
        rw [List.cons_append, List.filterMap_cons_some hword]
        exact .busy hb hloads
    | .delay m =>
      obtain ⟨k, evs, r, t, hrun, hloads⟩ := hgoTo (p := .poll m) (s.proceeds_delay s.cfg.pollDelayUs)
        (by simp only [WaitPos.stepsLeft] at hn ⊢; omega)
      exact ⟨k, _, r, t, hrun, hloads⟩

end Sys2Proof.Machine
end

section
/-! SUPPORT. A selector operation is answered in the step that accepts it (10_state.md R39, 60_exceptions.md R212). -/

namespace Sys2Proof.Machine

variable {s : State}

/-- A selector operation answers in its one step (R39): OK or InvalidArgument, after its accesses. -/
theorem State.selectorNext_answers (s : State) (p : Nat) (f : Word → Option Word) :
    ∃ evs r, (s.selectorNext p f).history = s.history ++ (evs ++ [.resp (some .sel) r]) ∧
      (∀ e ∈ evs, e.result = none) ∧ (r = .ok ∨ r = .error .invalidArgument) := by
  by_cases hp : s.cfg.portCount ≤ p
  · rw [State.selectorNext_outOfRange f hp]
    exact ⟨[], _, rfl, List.forall_mem_nil _, .inr rfl⟩
  · have hlt := Nat.lt_of_not_le hp
    cases hv : f (s.portWord p) with
    | none =>
      rw [State.selectorNext_refuses hlt hv]
      exact ⟨[.ld .selwin (s.cfg.portOffset p) (s.portWord p)], _, by simp, by simp [Event.result], .inr rfl⟩
    | some v =>
      rw [State.selectorNext_stores hlt hv]
      exact ⟨[.ld .selwin (s.cfg.portOffset p) (s.portWord p), .st .selwin (s.cfg.portOffset p) v,
        .ld .selwin (s.cfg.portOffset p) v], _, by simp, by simp [Event.result], .inl rfl⟩

/-- Both results a selector operation can have are R212's. -/
theorem resultAllowed_of_sel {i : Instr} (hi : componentOf i = .sel) :
    resultAllowed i .ok = true ∧ resultAllowed i (.error .invalidArgument) = true := by
  cases i with
  | setInterfaceMode p m => exact ⟨rfl, rfl⟩
  | setLinkSpeed p v => exact ⟨rfl, rfl⟩
  | _ => cases hi

/-- A selector operation is one step, in which it is accepted and answered. -/
theorem exec_sel_answers (hc : s.cfg.Valid) (hidle : s.selSeq = .idle) {i : Instr}
    (hi : componentOf i = .sel) :
    ∃ t evs r, exec i s = .next t ∧ t.requests = s.requests ∧ t.selSeq = .idle ∧ t.mdioSeq = s.mdioSeq ∧
      t.history = s.history ++ .req i :: (evs ++ [.resp (some .sel) r]) ∧ (∀ e ∈ evs, e.result = none) ∧
      resultAllowed i r = true := by
  have hexec : ∃ p f, exec i s = .next ((s.openSel i).selectorNext p f) := by
    obtain ⟨p, ⟨m, rfl⟩ | ⟨v, rfl⟩⟩ := exists_port_of_sel hi
    · exact ⟨_, _, exec_setInterfaceMode hc hidle p m⟩
    · exact ⟨_, _, exec_setLinkSpeed hc hidle p v⟩
  obtain ⟨p, f, hexec⟩ := hexec
  obtain ⟨evs, r, hhistory, hquiet, hr⟩ := (s.openSel i).selectorNext_answers p f
  obtain ⟨hok, hinvalid⟩ := resultAllowed_of_sel hi
  have hallowed : resultAllowed i r = true := by
    obtain rfl | rfl := hr
    · exact hok
    · exact hinvalid
  have hframe := (s.openSel i).selectorNext_frame p f
  refine ⟨_, evs, r, hexec, ?_, ?_, ?_, by simpa using hhistory, hquiet, hallowed⟩
  · rw [hframe]; rfl
  · rw [hframe]
  · rw [hframe]; rfl

end Sys2Proof.Machine
end

section
/-! SUPPORT. The statements about how MDIO operations end (41_mdio_controller.md R152, R157, R164). -/

namespace Sys2Proof

open Machine

/-- Settles O19: without a clock rate the divider search finds nothing, and nothing else is looked at. -/
theorem computeDividerWithoutClock : Obligations.ComputeDividerWithoutClock := by
  intro s hidle hrate
  have hnone : s.cfg.divider s.refRate = none := by
    obtain h | h := hrate <;> rw [h] <;> rfl
  simp [exec, execComputeDivider, hidle, hnone, State.answerMdc, State.openMdc, State.record]

/-- Settles O26: the run of the wait is its loads, and these are as many as R157 says. -/
theorem waitUsesItsExactBudget : Obligations.WaitUsesItsExactBudget := by
  intro s hc hidle hr
  have hserial : s.SerialHost := by simp [State.SerialHost, hr, programRequests]
  have hstep := step_request_mdc hc hserial hidle hr (i := .waitNotBusy) (by decide) rfl
  have hcfg := s.takeRequest_cfg []
  obtain ⟨k, evs, r, t, hrun, hloads⟩ := State.waitNotBusy_answered
    (s := (s.takeRequest []).openMdc .waitNotBusy (firstPos (s.takeRequest []).cfg .waitNotBusy)) (hcfg ▸ hc)
    (List.forall_mem_nil _) rfl
  rw [State.openMdc_cfg, hcfg] at hloads
  refine ⟨k + 1, t, evs, r, ?_, hrun.idle, ?_, hrun.quiet, hloads.exact_budget⟩
  · rw [runSteps, hstep]
    exact hrun.run
  · rw [hrun.history]
    simp

/-- Settles O58: each micro-step brings the open operation nearer to its end. -/
theorem everyOperationEnds : Obligations.EveryOperationEnds := by
  intro s hc hserial hopen
  obtain ⟨i, hi⟩ := MdioSeq.exists_instr hopen
  obtain ⟨k, evs, r, t, hk, hrun, -⟩ := s.lineTurn.mdcNext_answered (by simpa using hc)
    (State.lineTurn_serialHost hserial) (by simpa using hi)
  refine ⟨k + 1, t, by simpa using hk, ?_, hrun.idle⟩
  rw [runSteps, step_open hc hserial hi]
  exact hrun.run

/-- Settles O59: a selector operation is one step; an MDIO operation's first micro-step leaves it with fewer steps than
its first position allows. -/
theorem microStepsOfAWholeOperation : Obligations.MicroStepsOfAWholeOperation := by
  intro s q qs i hc hserial hsel hidle hr hi
  cases hcomp : componentOf i with
  | sel =>
    obtain ⟨t, evs, r, hexec, hrequests, hselSeq, hmdioSeq, hhistory, hquiet, hallowed⟩ :=
      exec_sel_answers (s := s.takeRequest qs) (by simpa using hc) (by simpa using hsel) hcomp
    refine ⟨1, t, evs, r, ?_, ?_, hrequests, hselSeq, by simpa [hidle] using hmdioSeq, by simpa using hhistory, hquiet,
      hallowed⟩
    · obtain ⟨p, ⟨m, rfl⟩ | ⟨v, rfl⟩⟩ := exists_port_of_sel hcomp
      · exact le_rfl
      · exact le_rfl
    · simp only [runSteps, step_request hc hserial hidle hr hi, hexec]
  | mdc =>
    have hserial' : (s.takeRequest qs).SerialHost := fun q' hq' =>
      hserial q' (hr ▸ List.mem_cons_of_mem q hq')
    obtain ⟨k, evs, r, t, hk, hrun, hallowed⟩ :=
      (s.takeRequest qs).mdcStart_answered (by simpa using hc) hserial' hcomp
    rw [s.takeRequest_cfg] at hk
    refine ⟨k + 1, t, evs, r, ?_, ?_, hrun.requests, by simpa [hsel] using hrun.selSeq, hrun.idle,
      by simpa using hrun.history, hrun.quiet, hallowed⟩
    · cases i with
      | setInterfaceMode p m => cases hcomp
      | setLinkSpeed p v => cases hcomp
      | _ =>
        simp only [firstPos, MdioSeq.stepsLeft, WaitPos.stepsLeft] at hk ⊢
        omega
    · rw [runSteps, step_request_mdc hc hserial hidle hr hi hcomp]
      exact hrun.run

end Sys2Proof
end

section
/-! SUPPORT. The words of a transaction (10_state.md R30, R31, R32): the request words of `read` and `write`, the cell an
`ADDR` word names, and the data fields of `CTRL` and `STATUS`. -/

namespace Sys2Proof

theorem decode_encode_read (a r : Half) : decode (encode (.read a r)) = .op (.read a r) := by
  simp [decode, encode, decodeFields, ifUnusedZero, Instr.opcode, Instr.fieldA, Instr.fieldB, Instr.fieldC]

theorem decode_encode_write (a r v : Half) : decode (encode (.write a r v)) = .op (.write a r v) := by
  simp [decode, encode, decodeFields, Instr.opcode, Instr.fieldA, Instr.fieldB, Instr.fieldC]

/-- The address field of a packed `ADDR` word (R30, R74). -/
@[simp] theorem phyOfAddr_packAddr (a r : Half) : phyOfAddr (packAddr a r) = maskOctet a := by
  apply BitVec.eq_of_getLsbD_eq
  intro i hi
  have : 8 + i < 32 := by omega
  simp [phyOfAddr, packAddr, hi, this]

/-- The register field of a packed `ADDR` word (R30, R74). -/
@[simp] theorem regOfAddr_packAddr (a r : Half) : regOfAddr (packAddr a r) = maskOctet r := by
  apply BitVec.eq_of_getLsbD_eq
  intro i hi
  have : i < 32 := by omega
  simp [regOfAddr, packAddr, hi, this]

theorem maskOctet_toNat (a : Half) : (maskOctet a).toNat = a.toNat % 256 := by simp [maskOctet]

/-- Operands that agree in their low 8 bits name the same PHY address, or register (R74). -/
theorem maskOctet_eq_iff (a b : Half) : maskOctet a = maskOctet b ↔ a.toNat % 256 = b.toNat % 256 := by
  rw [← BitVec.toNat_inj, maskOctet_toNat, maskOctet_toNat]

/-- The value `write` stores in `CTRL` is the data of the cycle it starts (R31, R161). -/
@[simp] theorem dataField_zextWord (v : Half) : dataField (zextWord v) = v := by
  apply BitVec.eq_of_getLsbD_eq
  intro i hi
  have : i < 32 := by omega
  simp [dataField, zextWord, hi, this]

/-- The value a completed read cycle leaves in `STATUS` is its data field, before and after the line masks the rest
(R32, R195, R200). -/
theorem dataField_status (w : Word) (v : Half) :
    dataField (((w &&& 0xFFFF0000#32) ||| zextWord v) &&& 0x0000FFFF#32) = v := by
  have hlow : (0x0000FFFF#32).extractLsb' 0 16 = BitVec.allOnes 16 := by decide
  have hhigh : (0xFFFF0000#32).extractLsb' 0 16 = 0#16 := by decide
  have hv : (zextWord v).extractLsb' 0 16 = v := dataField_zextWord v
  rw [dataField, BitVec.extractLsb'_and, BitVec.extractLsb'_or, BitVec.extractLsb'_and, hlow, hhigh, hv,
    BitVec.and_zero, BitVec.zero_or, BitVec.and_allOnes]

end Sys2Proof
end

section
/-! SUPPORT. A transaction on SimPHY(L) after a successful `reset` (42_mdio_device_side.md R200, R201): a cycle in flight
completes at the Indicator load after L busy ones, so with L below the budget every wait ends OK; from one idle bus to
the next a `write` writes its cell and a `read` returns it. -/

namespace Sys2Proof.Machine

variable {s t u : State} {l : Nat}

/-! ## Runs and the results they deliver -/

/-- `s` runs to `t`, and the responses on the way deliver the results `rs`. -/
def State.RunsTo (s : State) (rs : List Result) (t : State) : Prop :=
  ∃ k evs, runSteps k s = .next t ∧ t.history = s.history ++ evs ∧ evs.filterMap Event.result = rs

theorem runSteps_add {j : Nat} (h : runSteps j s = .next t) (k : Nat) : runSteps (j + k) s = runSteps k t := by
  induction j generalizing s with
  | zero => cases h; rw [Nat.zero_add]
  | succ j ih =>
    rw [Nat.succ_add]
    simp only [runSteps] at h ⊢
    cases hs : step s with
    | next s' => rw [hs] at h; exact ih h
    | fault f => rw [hs] at h; cases h
    | refused r => rw [hs] at h; cases h

theorem State.RunsTo.refl (s : State) : s.RunsTo [] s := ⟨0, [], rfl, by simp, rfl⟩

theorem State.RunsTo.trans {rs rs' : List Result} (h : s.RunsTo rs t) (h' : t.RunsTo rs' u) :
    s.RunsTo (rs ++ rs') u := by
  obtain ⟨j, evs, hrun, hhistory, rfl⟩ := h
  obtain ⟨k, evs', hrun', hhistory', rfl⟩ := h'
  exact ⟨j + k, evs ++ evs', by rw [runSteps_add hrun, hrun'], by simp [hhistory, hhistory'], by simp⟩

/-- One step, with the events it records. -/
theorem State.RunsTo.of_step {evs : List Event} {rs : List Result} (h : step s = .next t)
    (hhistory : t.history = s.history ++ evs) (hrs : evs.filterMap Event.result = rs) : s.RunsTo rs t :=
  ⟨1, evs, by simp [runSteps, h], hhistory, hrs⟩

/-! ## The level -/

/-- SimPHY(L) with L below the budget, after a successful `reset`, with a serial host and no fault marked (R200, R201,
R243). -/
def State.OnSimPhy (s : State) (l : Nat) : Prop :=
  s.cfg.Valid ∧ s.level = .simPhy (some l) ∧ l < s.cfg.retryBudget ∧ s.resetDone = true ∧ s.SerialHost ∧
    s.InvNoLineFault

theorem State.OnSimPhy.valid (h : s.OnSimPhy l) : s.cfg.Valid := And.left h

theorem State.OnSimPhy.noLineFault (h : s.OnSimPhy l) : s.InvNoLineFault := by
  obtain ⟨-, -, -, -, -, hfault⟩ := h
  exact hfault

theorem State.OnSimPhy.level_ne_openLine (h : s.OnSimPhy l) : s.level ≠ .openLine := by
  obtain ⟨-, hlevel, -⟩ := h
  rw [hlevel]
  exact nofun

/-- The budget allows L busy loads and one more. -/
theorem State.OnSimPhy.exists_budget (h : s.OnSimPhy l) : ∃ n, s.cfg.retryBudget = n + 1 ∧ l ≤ n := by
  obtain ⟨-, -, hl, -⟩ := h
  exact ⟨s.cfg.retryBudget - 1, by omega, by omega⟩

/-- SimPHY completes cycles at Indicator loads only (R200). -/
theorem State.lineTurn_simPhy {o : Option Nat} (h : s.level = .simPhy o) : s.lineTurn = s := by
  simp [State.lineTurn, h]

/-- An open operation makes its next micro-step, and the run records its events. -/
theorem State.OnSimPhy.runsTo_mdcNext (h : s.OnSimPhy l) {i : Instr} (hi : s.mdioSeq.instr = some i)
    (ht : s.mdcNext = t) {evs : List Event} {rs : List Result} (hhistory : t.history = s.history ++ evs)
    (hrs : evs.filterMap Event.result = rs) : s.RunsTo rs t := by
  obtain ⟨hc, hlevel, -, -, hserial, -⟩ := h
  have hstep := step_open hc hserial hi
  rw [State.lineTurn_simPhy hlevel, ht] at hstep
  exact .of_step hstep hhistory hrs

/-- A request is accepted and its operation makes its first micro-step. -/
theorem State.OnSimPhy.runsTo_mdcStart (h : s.OnSimPhy l) (hidle : s.mdioSeq = .idle) {q : Request} {qs : List Request}
    (hr : s.requests = q :: qs) {i : Instr} (hi : decode q.word = .op i) (hmdc : componentOf i = .mdc)
    (ht : { s with requests := qs }.mdcStart i = t) {evs : List Event} {rs : List Result}
    (hhistory : t.history = s.history ++ evs) (hrs : evs.filterMap Event.result = rs) : s.RunsTo rs t := by
  obtain ⟨hc, hlevel, -, -, hserial, -⟩ := h
  have hstep := step_request_mdc hc hserial hidle hr hi hmdc
  rw [State.takeRequest, State.lineTurn_simPhy hlevel, ht] at hstep
  exact .of_step hstep hhistory hrs

/-- `s` with all that a wait changes on SimPHY while the cycle is in flight: the Indicator word `x`, the countdown `k`,
the position `q` and the history `es` (R156, R200). -/
def State.midWait (s : State) (x : Word) (k : Nat) (q : MdioSeq) (es : List Event) : State :=
  { s with ind := x, countdown := k, mdioSeq := q, history := es }

theorem State.OnSimPhy.midWait (h : s.OnSimPhy l) (x : Word) (k : Nat) (q : MdioSeq) (es : List Event) :
    (s.midWait x k q es).OnSimPhy l := h

/-- What a completed cycle leaves does not depend on them. -/
theorem State.completeCycle_midWait (s : State) (x x' : Word) (k k' : Nat) (q q' : MdioSeq) (es es' : List Event) :
    (s.midWait x k q es).completeCycle.midWait x' k' q' es' = s.completeCycle.midWait x' k' q' es' := by
  obtain h | ⟨c, h⟩ := Option.eq_none_or_eq_some s.pending
  · simp [State.completeCycle, State.midWait, h]
  · cases c <;> simp [State.completeCycle, State.midWait, h, State.clearCycle]

/-! ## Loads and triggers -/

/-- An Indicator load shows the busy bit alone, after SimPHY has counted the load (R200). -/
theorem State.OnSimPhy.lineLoad_ind (h : s.OnSimPhy l) :
    s.lineLoad .ind =
      (s.simPoll.ind &&& s.cfg.indBusy, { s.simPoll with ind := s.simPoll.ind &&& s.cfg.indBusy }) := by
  obtain ⟨-, hlevel, -, hreset, -, -⟩ := h
  rw [State.lineLoad_driven (State.beforeReset_of_resetDone hreset)]
  simp [State.lineDrive, State.driveInd, hlevel, State.readReg]

theorem State.OnSimPhy.polled_eq (h : s.OnSimPhy l) :
    s.polled = s.simPoll.midWait (s.simPoll.ind &&& s.cfg.indBusy) s.simPoll.countdown s.mdioSeq
      (s.history ++ [.ld .mdiowin s.cfg.indOff (s.simPoll.ind &&& s.cfg.indBusy)]) := by
  simp [State.polled, State.loaded, State.loadReg, h.lineLoad_ind, State.record, State.midWait]

/-- A poll of a wait goes on or ends it by the busy bit that SimPHY leaves (R156, R200). -/
theorem State.OnSimPhy.waitNext_poll (h : s.OnSimPhy l) (n : Nat) (again : WaitPos → MdioSeq)
    (notBusy timedOut : State → State) :
    s.waitNext (.poll (n + 1)) again notBusy timedOut =
      if s.cfg.busyIn s.simPoll.ind then s.polled.goTo (again (.delay n)) else notBusy s.polled := by
  simp only [State.waitNext, h.lineLoad_ind, Config.busyIn_and]

theorem State.simPoll_idle (h : s.pending = none) : s.simPoll = s := by simp [State.simPoll, h]

theorem State.simPoll_counting {c : Cycle} {k : Nat} (h : s.pending = some c) (hk : s.countdown = k + 1) :
    s.simPoll = { s with countdown := k } := by simp [State.simPoll, h, hk]

theorem State.simPoll_done {c : Cycle} (h : s.pending = some c) (hk : s.countdown = 0) :
    s.simPoll = s.completeCycle := by simp [State.simPoll, h, hk]

/-- A completed cycle leaves the bus not busy (R195). -/
theorem State.completeCycle_notBusy {c : Cycle} (h : s.pending = some c) :
    s.cfg.busyIn s.completeCycle.ind = false := by
  cases c <;> simp [State.completeCycle, h, State.clearCycle, Config.busyIn_clear]

/-- A trigger on an idle bus starts its cycle, which SimPHY counts from L (R193, R194, R200). -/
theorem State.OnSimPhy.trigger_eq (h : s.OnSimPhy l) (c : Cycle) :
    s.trigger c = { s with pending := some c, ind := s.ind ||| s.cfg.indBusy, countdown := l } := by
  obtain ⟨-, hlevel, -, hreset, -, -⟩ := h
  rw [State.trigger_eq (State.beforeReset_of_resetDone hreset), State.startCycle, hlevel]

/-! ## A wait for the cycle in flight -/

section
variable {i : Instr} {again : WaitPos → MdioSeq} {notBusy timedOut : State → State}
  (hnext : ∀ (v : State) (p : WaitPos), v.mdioSeq = again p → v.mdcNext = v.waitNext p again notBusy timedOut)
  (hinstr : ∀ p, (again p).instr = some i)
include hnext hinstr

/-- A poll that SimPHY counts down and the delay after it take one poll and one count (R156, R200). -/
theorem State.OnSimPhy.runsTo_nextPoll (h : s.OnSimPhy l) {c : Cycle} {n k : Nat} (hp : s.pending = some c)
    (hbusy : s.cfg.busyIn s.ind = true) (hs : s.mdioSeq = again (.poll (n + 1))) (hk : s.countdown = k + 1) :
    ∃ es, s.RunsTo [] (s.midWait (s.ind &&& s.cfg.indBusy) k (again (.poll n)) es) := by
  have hload : s.mdcNext = s.midWait (s.ind &&& s.cfg.indBusy) k (again (.delay n))
      (s.history ++ [.ld .mdiowin s.cfg.indOff (s.ind &&& s.cfg.indBusy)]) := by
    rw [hnext s _ hs, h.waitNext_poll, h.polled_eq, State.simPoll_counting hp hk, if_pos hbusy]
    rfl
  have hfirst := h.runsTo_mdcNext (hs ▸ hinstr _) hload rfl rfl
  exact ⟨_, hfirst.trans ((h.midWait _ _ _ _).runsTo_mdcNext (hinstr _) (hnext _ _ rfl) rfl rfl)⟩

/-- A wait with more polls left than the countdown comes to the load that completes the cycle (R156, R200). -/
theorem State.OnSimPhy.runsTo_lastPoll (h : s.OnSimPhy l) {c : Cycle} (hp : s.pending = some c)
    (hbusy : s.cfg.busyIn s.ind = true) {n : Nat} (hs : s.mdioSeq = again (.poll (n + 1))) (hn : s.countdown ≤ n) :
    ∃ m x es, s.RunsTo [] (s.midWait x 0 (again (.poll (m + 1))) es) := by
  induction hk : s.countdown generalizing s n with
  | zero =>
    refine ⟨n, s.ind, s.history, ?_⟩
    rw [← hk, ← hs]
    exact .refl s
  | succ k ih =>
    obtain ⟨m, rfl⟩ : ∃ m, n = m + 1 := ⟨n - 1, by omega⟩
    have hm : k ≤ m := by omega
    obtain ⟨es, hrun⟩ := h.runsTo_nextPoll hnext hinstr hp hbusy hs hk
    obtain ⟨m', x, es', hrest⟩ := ih (h.midWait _ k (again (.poll (m + 1))) es) hp
      ((s.cfg.busyIn_and s.ind).trans hbusy) rfl hm rfl
    exact ⟨m', x, es', hrun.trans hrest⟩

/-- That load completes the cycle, and the operation goes on, or ends, with the bus not busy (R156, R200). -/
theorem State.OnSimPhy.runsTo_completion (h : s.OnSimPhy l) {c : Cycle} (hp : s.pending = some c) {n : Nat}
    (hs : s.mdioSeq = again (.poll (n + 1))) (hk : s.countdown = 0) {evs : List Event}
    (hevs : ∀ v : State, (notBusy v).history = v.history ++ evs) :
    ∃ x q es, s.cfg.busyIn x = false ∧
      s.RunsTo (evs.filterMap Event.result) (notBusy (s.completeCycle.midWait x 0 q es)) := by
  have hpoll := State.simPoll_done hp hk
  have hclear := State.completeCycle_notBusy hp
  have hload : s.mdcNext = notBusy (s.completeCycle.midWait (s.completeCycle.ind &&& s.cfg.indBusy) 0 s.mdioSeq
      (s.history ++ [.ld .mdiowin s.cfg.indOff (s.completeCycle.ind &&& s.cfg.indBusy)])) := by
    rw [hnext s _ hs, h.waitNext_poll, h.polled_eq, hpoll, hclear, if_neg Bool.false_ne_true,
      s.completeCycle_countdown, hk]
  refine ⟨_, _, _, (s.cfg.busyIn_and _).trans hclear, h.runsTo_mdcNext (hs ▸ hinstr _) hload
    (evs := .ld .mdiowin s.cfg.indOff (s.completeCycle.ind &&& s.cfg.indBusy) :: evs) ?_ rfl⟩
  rw [hevs]
  exact List.append_assoc _ _ _

/-- With L below the budget a wait for a cycle just started ends with the cycle completed and the bus not busy (R156,
R200). -/
theorem State.RunsTo.fullWait (hrun : u.RunsTo [] s) (h : s.OnSimPhy l) (hs : s.mdioSeq = again (Config.fullWait s.cfg))
    {c : Cycle} (hp : s.pending = some c) (hbusy : s.cfg.busyIn s.ind = true) (hk : s.countdown = l)
    {evs : List Event} (hevs : ∀ v : State, (notBusy v).history = v.history ++ evs) :
    ∃ x q es, s.cfg.busyIn x = false ∧
      u.RunsTo (evs.filterMap Event.result) (notBusy (s.completeCycle.midWait x 0 q es)) := by
  obtain ⟨n, hn, hl⟩ := h.exists_budget
  rw [Config.fullWait, hn] at hs
  obtain ⟨m, x, es, hpolls⟩ := h.runsTo_lastPoll hnext hinstr hp hbusy hs (hk ▸ hl)
  obtain ⟨x', q, es', hx, hlast⟩ :=
    (h.midWait x 0 (again (.poll (m + 1))) es).runsTo_completion hnext hinstr hp rfl rfl hevs
  rw [State.completeCycle_midWait] at hlast
  exact ⟨x', q, es', hx, (hrun.trans hpolls).trans hlast⟩

end

/-- On an idle bus a wait ends at its first load (R156). -/
theorem State.OnSimPhy.waitNext_idle (h : s.OnSimPhy l) (hbus : s.InvNotBusy) (n : Nat) (again : WaitPos → MdioSeq)
    (notBusy timedOut : State → State) :
    s.waitNext (.poll (n + 1)) again notBusy timedOut =
      notBusy (s.midWait (s.ind &&& s.cfg.indBusy) s.countdown s.mdioSeq
        (s.history ++ [.ld .mdiowin s.cfg.indOff (s.ind &&& s.cfg.indBusy)])) := by
  obtain ⟨hclear, hpending⟩ := hbus
  rw [h.waitNext_poll, h.polled_eq, State.simPoll_idle hpending, hclear, if_neg Bool.false_ne_true]

/-! ## The micro-steps of the transactions -/

theorem State.mdcNext_read {a r : Half} {pos : ReadPos} (hs : s.mdioSeq = .read a r pos) :
    s.mdcNext = s.readNext a r pos := by
  rw [State.mdcNext, hs]

theorem State.mdcNext_write {a r v : Half} {pos : WritePos} (hs : s.mdioSeq = .write a r v pos) :
    s.mdcNext = s.writeNext a r v pos := by
  rw [State.mdcNext, hs]

/-- The first micro-step of an accepted `read` is one of its first wait (R158). -/
theorem State.mdcStart_read (s : State) (a r : Half) :
    s.mdcStart (.read a r) =
      (s.openMdc (.read a r) (firstPos s.cfg (.read a r))).readNext a r (.firstWait (Config.fullWait s.cfg)) := rfl

/-- The first micro-step of an accepted `write` stores the address (R161). -/
theorem State.mdcStart_write (s : State) (a r v : Half) :
    s.mdcStart (.write a r v) =
      (s.openMdc (.write a r v) (firstPos s.cfg (.write a r v))).writeNext a r v .storeAddr := rfl

/-- An operation open at `s` makes its next micro-step, with no response. -/
theorem State.RunsTo.microStep (hrun : u.RunsTo [] s) (h : s.OnSimPhy l) {i : Instr} (hi : s.mdioSeq.instr = some i)
    (ht : s.mdcNext = t) {evs : List Event} (hhistory : t.history = s.history ++ evs)
    (hquiet : evs.filterMap Event.result = []) : u.RunsTo [] t :=
  hrun.trans (h.runsTo_mdcNext hi ht hhistory hquiet)

theorem State.OnSimPhy.withRequests (h : s.OnSimPhy l) {q : Request} {qs : List Request} (hr : s.requests = q :: qs) :
    ({ s with requests := qs } : State).OnSimPhy l := by
  obtain ⟨hc, hlevel, hl, hreset, hserial, hfault⟩ := h
  exact ⟨hc, hlevel, hl, hreset, fun q' hq' => hserial q' (hr ▸ List.mem_cons_of_mem q hq'), hfault⟩

/-- A `write` request is accepted and its address stored (R161). -/
theorem State.OnSimPhy.runsTo_startWrite (h : s.OnSimPhy l) (hidle : s.mdioSeq = .idle) {a r v : Half}
    {qs : List Request} (hr : s.requests = { word := encode (.write a r v), overlap := none } :: qs) :
    ∃ es, s.RunsTo []
      { s with requests := qs, addr := packAddr a r, mdioSeq := .write a r v .storeCtrl, history := es } := by
  have hstart := State.mdcStart_write { s with requests := qs } a r v
  rw [State.writeNext, State.wrote_addr] at hstart
  exact ⟨_, h.runsTo_mdcStart hidle hr (decode_encode_write a r v) rfl hstart (List.append_assoc _ _ _) rfl⟩

/-- On an idle bus in WRITE-mode the store to `CTRL` starts the write cycle (R161, R194). -/
theorem State.RunsTo.triggerWrite (hrun : u.RunsTo [] s) (h : s.OnSimPhy l) {a r v : Half}
    (hs : s.mdioSeq = .write a r v .storeCtrl) (hpending : s.pending = none) (hcmd : s.InvCmdIdle)
    (haddr : s.addr = packAddr a r) :
    ∃ es, u.RunsTo []
      { s with
        addr := packAddr a r
        ctrl := zextWord v
        pending := some (.wr (maskOctet a) (maskOctet r) v)
        ind := s.ind ||| s.cfg.indBusy
        countdown := l
        mdioSeq := .write a r v (.finalWait (Config.fullWait s.cfg))
        history := es } := by
  have hstore := State.mdcNext_write hs
  simp only [State.writeNext, State.wrote_ctrl h.level_ne_openLine, State.lineCtrlStore, hpending, if_pos hcmd,
    h.trigger_eq, dataField_zextWord, haddr, phyOfAddr_packAddr, regOfAddr_packAddr] at hstore
  exact ⟨_, hrun.microStep h (congrArg MdioSeq.instr hs) hstore (List.append_assoc _ _ _) rfl⟩

/-- The wait of a `write` for its cycle is answered OK (R161). -/
theorem State.RunsTo.finalWait (hrun : u.RunsTo [] s) (h : s.OnSimPhy l) {a r v : Half}
    (hs : s.mdioSeq = .write a r v (.finalWait (Config.fullWait s.cfg))) {c : Cycle} (hp : s.pending = some c)
    (hbusy : s.cfg.busyIn s.ind = true) (hk : s.countdown = l) :
    ∃ x q es, s.cfg.busyIn x = false ∧ u.RunsTo [.ok] ((s.completeCycle.midWait x 0 q es).answerMdc .ok) :=
  hrun.fullWait (again := fun w => .write a r v (.finalWait w)) (notBusy := fun t => t.answerMdc .ok)
    (timedOut := fun t => t.answerMdc (.error .timeout)) (fun _ _ => State.mdcNext_write) (fun _ => rfl) h hs hp hbusy hk
    (evs := [.resp (some .mdc) .ok]) fun _ => rfl

/-- A `read` request is accepted and, on an idle bus, its first wait ends at once (R156, R158). -/
theorem State.OnSimPhy.runsTo_startRead (h : s.OnSimPhy l) (hidle : s.mdioSeq = .idle) (hbus : s.InvNotBusy)
    {a r : Half} {qs : List Request} (hr : s.requests = { word := encode (.read a r), overlap := none } :: qs) :
    ∃ es, s.RunsTo []
      { s with requests := qs, ind := s.ind &&& s.cfg.indBusy, mdioSeq := .read a r .storeIdle, history := es } := by
  obtain ⟨n, hn, -⟩ := h.exists_budget
  have hopen : (({ s with requests := qs } : State).openMdc (.read a r) (firstPos s.cfg (.read a r))).OnSimPhy l :=
    h.withRequests hr
  have hstart := State.mdcStart_read { s with requests := qs } a r
  rw [State.readNext, Config.fullWait, hn, hopen.waitNext_idle hbus] at hstart
  simp only [State.midWait, State.goTo, State.openMdc, State.record] at hstart
  exact ⟨_, h.runsTo_mdcStart hidle hr (decode_encode_read a r) rfl hstart (List.append_assoc _ _ _) rfl⟩

/-- The store of `CMD_WRITE` that a `read` begins with (R158). -/
theorem State.RunsTo.storeIdle (hrun : u.RunsTo [] s) (h : s.OnSimPhy l) {a r : Half}
    (hs : s.mdioSeq = .read a r .storeIdle) :
    ∃ es, u.RunsTo [] { s with cmd := s.cfg.cmdWrite, mdioSeq := .read a r .storeAddr, history := es } := by
  have hstore := State.mdcNext_read hs
  rw [State.readNext, State.wrote_cmdWrite h.valid] at hstore
  exact ⟨_, hrun.microStep h (congrArg MdioSeq.instr hs) hstore rfl rfl⟩

/-- The store of the address of a `read` (R158). -/
theorem State.RunsTo.storeAddr (hrun : u.RunsTo [] s) (h : s.OnSimPhy l) {a r : Half}
    (hs : s.mdioSeq = .read a r .storeAddr) :
    ∃ es, u.RunsTo [] { s with addr := packAddr a r, mdioSeq := .read a r .storeRead, history := es } := by
  have hstore := State.mdcNext_read hs
  rw [State.readNext, State.wrote_addr] at hstore
  exact ⟨_, hrun.microStep h (congrArg MdioSeq.instr hs) hstore rfl rfl⟩

/-- On an idle bus in WRITE-mode the store of `CMD_READ` starts the read cycle (R158, R193). -/
theorem State.RunsTo.triggerRead (hrun : u.RunsTo [] s) (h : s.OnSimPhy l) {a r : Half}
    (hs : s.mdioSeq = .read a r .storeRead) (hpending : s.pending = none) (hcmd : s.InvCmdIdle)
    (haddr : s.addr = packAddr a r) :
    ∃ es, u.RunsTo []
      { s with
        cmd := s.cfg.cmdRead
        addr := packAddr a r
        pending := some (.rd (maskOctet a) (maskOctet r))
        ind := s.ind ||| s.cfg.indBusy
        countdown := l
        mdioSeq := .read a r (.secondWait (Config.fullWait s.cfg))
        history := es } := by
  have hstore := State.mdcNext_read hs
  simp only [State.readNext, State.wrote_cmdRead h.level_ne_openLine, State.lineCmdStore, if_true, hpending,
    if_pos hcmd, h.trigger_eq, haddr, phyOfAddr_packAddr, regOfAddr_packAddr] at hstore
  exact ⟨_, hrun.microStep h (congrArg MdioSeq.instr hs) hstore rfl rfl⟩

/-- The wait of a `read` for its cycle leads on to the Status load (R158). -/
theorem State.RunsTo.secondWait (hrun : u.RunsTo [] s) (h : s.OnSimPhy l) {a r : Half}
    (hs : s.mdioSeq = .read a r (.secondWait (Config.fullWait s.cfg))) {c : Cycle} (hp : s.pending = some c)
    (hbusy : s.cfg.busyIn s.ind = true) (hk : s.countdown = l) :
    ∃ x q es, s.cfg.busyIn x = false ∧
      u.RunsTo [] ((s.completeCycle.midWait x 0 q es).goTo (.read a r .loadStatus)) :=
  hrun.fullWait (again := fun w => .read a r (.secondWait w)) (notBusy := fun t => t.goTo (.read a r .loadStatus))
    (timedOut := fun t => t.goTo (.read a r .abort)) (fun _ _ => State.mdcNext_read) (fun _ => rfl) h hs hp hbusy hk
    (evs := []) fun _ => (List.append_nil _).symm

/-- The Status load of a `read` takes up the data field (R158, R200). -/
theorem State.RunsTo.loadStatus (hrun : u.RunsTo [] s) (h : s.OnSimPhy l) {a r : Half}
    (hs : s.mdioSeq = .read a r .loadStatus) {v : Half} (hv : dataField (s.status &&& 0x0000FFFF#32) = v) :
    ∃ es, u.RunsTo []
      { s with status := s.status &&& 0x0000FFFF#32, mdioSeq := .read a r (.storeBack v), history := es } := by
  have hdrive : s.lineLoad .status = (s.status &&& 0x0000FFFF#32, { s with status := s.status &&& 0x0000FFFF#32 }) := by
    obtain ⟨-, hlevel, -, hreset, -⟩ := h
    rw [State.lineLoad_driven (State.beforeReset_of_resetDone hreset)]
    simp [State.lineDrive, State.driveStatus, hlevel, State.readReg]
  have hload := State.mdcNext_read hs
  rw [State.readNext, State.loaded, State.loadReg, hdrive, hv] at hload
  exact ⟨_, hrun.microStep h (congrArg MdioSeq.instr hs) hload rfl rfl⟩

/-- The last store of a `read` leaves the latch in WRITE-mode, and the value is answered (R158, R160). -/
theorem State.RunsTo.storeBack (hrun : u.RunsTo [] s) (h : s.OnSimPhy l) {a r v : Half}
    (hs : s.mdioSeq = .read a r (.storeBack v)) :
    ∃ es, u.RunsTo [.okValue v.toNat] { s with cmd := s.cfg.cmdWrite, mdioSeq := .idle, history := es } := by
  have hstore := State.mdcNext_read hs
  rw [State.readNext, State.wrote_cmdWrite h.valid] at hstore
  exact ⟨_, hrun.trans (h.runsTo_mdcNext (congrArg MdioSeq.instr hs) hstore
    ((List.append_assoc _ _ _).trans (List.append_assoc _ _ _)) rfl)⟩

/-! ## The transactions -/

/-- The bus is at rest on SimPHY(L): no operation open, no cycle in flight, WRITE-mode (R42). -/
def State.RestsOnSimPhy (s : State) (l : Nat) : Prop :=
  s.OnSimPhy l ∧ s.mdioSeq = .idle ∧ s.InvNotBusy ∧ s.InvCmdIdle

/-- From one rest to the next a `write` answers OK and writes the cell its operands name (R161, R194, R195, R201). -/
theorem State.RestsOnSimPhy.runsTo_write (h : s.RestsOnSimPhy l) {a r v : Half} {qs : List Request}
    (hr : s.requests = { word := encode (.write a r v), overlap := none } :: qs) :
    ∃ t, s.RunsTo [.ok] t ∧ t.RestsOnSimPhy l ∧ t.requests = qs ∧
      t.phy = s.phy.write (cellNumber (maskOctet a) (maskOctet r)) v := by
  obtain ⟨hsim, hidle, ⟨-, hpending⟩, hcmd⟩ := h
  have hsim' := hsim.withRequests hr
  obtain ⟨_, hstart⟩ := hsim.runsTo_startWrite hidle hr
  obtain ⟨_, htrigger⟩ := hstart.triggerWrite hsim' rfl hpending hcmd rfl
  obtain ⟨_, _, _, hclear, hend⟩ := htrigger.finalWait hsim' rfl rfl (hsim.valid.busyIn_set _) rfl
  simp only [State.completeCycle, State.clearCycle, State.midWait, State.answerMdc, State.record] at hend
  exact ⟨_, hend, ⟨hsim', rfl, ⟨hclear, rfl⟩, hcmd⟩, rfl, rfl⟩

/-- From one rest to the next a `read` answers the contents of the cell its operands name and writes none (R158, R193,
R195, R201). -/
theorem State.RestsOnSimPhy.runsTo_read (h : s.RestsOnSimPhy l) {a r : Half} {qs : List Request}
    (hr : s.requests = { word := encode (.read a r), overlap := none } :: qs) :
    ∃ t, s.RunsTo [.okValue (s.phy.read (cellNumber (maskOctet a) (maskOctet r))).toNat] t ∧ t.RestsOnSimPhy l ∧
      t.requests = qs ∧ t.phy = s.phy := by
  obtain ⟨hsim, hidle, hbus, -⟩ := h
  obtain ⟨-, hpending⟩ := id hbus
  have hsim' := hsim.withRequests hr
  obtain ⟨_, hstart⟩ := hsim.runsTo_startRead hidle hbus hr
  obtain ⟨_, hlatch⟩ := hstart.storeIdle hsim' rfl
  obtain ⟨_, haddr⟩ := hlatch.storeAddr hsim' rfl
  obtain ⟨_, htrigger⟩ := haddr.triggerRead hsim' rfl hpending rfl rfl
  obtain ⟨_, _, _, hclear, hdone⟩ := htrigger.secondWait hsim' rfl rfl (hsim.valid.busyIn_set _) rfl
  obtain ⟨_, hload⟩ := hdone.loadStatus hsim' rfl (dataField_status _ _)
  obtain ⟨_, hend⟩ := hload.storeBack hsim' rfl
  exact ⟨_, hend, ⟨hsim', rfl, ⟨hclear, rfl⟩, rfl⟩, rfl, rfl⟩

end Sys2Proof.Machine
end

section
/-! SUPPORT. The statement about the round trip (42_mdio_device_side.md R201). -/

namespace Sys2Proof

open Machine

/-- The cell that a pair of operands names (R38, R74). -/
theorem cellNumber_maskOctet (a r : Half) :
    cellNumber (maskOctet a) (maskOctet r) = 256 * (a.toNat % 256) + r.toNat % 256 := by
  rw [cellNumber, maskOctet_toNat, maskOctet_toNat]

/-- Settles O48: each of the two transactions runs from an idle bus to an idle bus; the `write` fills the cell that the
`read` then answers. -/
theorem writeThenReadRoundTrip : Obligations.WriteThenReadRoundTrip := by
  intro s a r v a' r' l hc hlevel hl hreset hidle hbus hcmd hfault hwf ha hr hreq
  have hserial : s.SerialHost := by simp [State.SerialHost, hreq, programRequests]
  have hrests : s.RestsOnSimPhy l := ⟨⟨hc, hlevel, hl, hreset, hserial, hfault⟩, hidle, hbus, hcmd⟩
  obtain ⟨u, hwrite, hrests', hreq', hphy⟩ := hrests.runsTo_write hreq
  obtain ⟨t, hread, ⟨hsim, hidle', hbus', hcmd'⟩, hdone, hphy'⟩ := hrests'.runsTo_read hreq'
  obtain ⟨k, evs, hrun, hhistory, hresults⟩ := hwrite.trans hread
  have hself : (s.phy.write (cellNumber (maskOctet a) (maskOctet r)) v).read
      (cellNumber (maskOctet a) (maskOctet r)) = v := Memory.read_write_self hwf v
  rw [hphy, ← (maskOctet_eq_iff a a').mpr ha, ← (maskOctet_eq_iff r r').mpr hr, hself] at hresults
  refine ⟨k, t, evs, hrun, hdone, hidle', hbus', hcmd', hsim.noLineFault, hhistory, hresults, ?_, fun n hn => ?_⟩
  · rw [hphy', hphy, ← cellNumber_maskOctet, hself]
  · rw [hphy', hphy, Memory.read_write_other (cellNumber_maskOctet a r ▸ hn)]

end Sys2Proof
end

section
/-! SUPPORT. Request words (30_encoding.md R91 to R97): what the decoder reads is what the encoder packs, and which
words are illegal. -/

namespace Sys2Proof

/-! ## From the operation to its word and back -/

theorem ifUnusedZero_eq_op {unused : Bool} {i j : Instr} : ifUnusedZero unused i = .op j ↔ unused = true ∧ i = j := by
  cases unused <;> simp [ifUnusedZero]

theorem ifUnusedZero_illegal {unused : Bool} {i : Instr} :
    (∃ why, ifUnusedZero unused i = .illegal why) ↔ unused = false := by
  cases unused <;> simp [ifUnusedZero]

/-- Settles O1: every field of the packed word reads back, and a well-formed mode operand is the reading of its
field. -/
theorem decodeOfEncode : Obligations.DecodeOfEncode := by
  intro i hi
  simp only [decode, encode, zField_packQ, opcField_packQ, aField_packQ, bField_packQ, cField_packQ, if_true]
  cases i with
  | setInterfaceMode p m =>
    have hm : modeOfField (fieldOfMode m) = m := modeOfField_fieldOfMode hi
    simp [decodeFields, ifUnusedZero, Instr.opcode, Instr.fieldA, Instr.fieldB, Instr.fieldC, hm]
  | _ => rfl

/-- What the fields of a legal word are: the code and the operand fields of the operation they spell, which is well
formed (R92, R94). -/
theorem decodeFields_eq_op {o : Octet} {a b c : Half} {i : Instr} (h : decodeFields o a b c = .op i) :
    (i.opcode = o ∧ i.fieldA = a ∧ i.fieldB = b ∧ i.fieldC = c) ∧ i.wf = true := by
  obtain ⟨hwf, hfield⟩ := modeOfField_wf b
  unfold decodeFields at h
  split_ifs at h
  case pos | pos | pos | pos | pos | pos =>
    obtain ⟨hunused, rfl⟩ := ifUnusedZero_eq_op.mp h
    simp_all [Instr.opcode, Instr.fieldA, Instr.fieldB, Instr.fieldC, Instr.wf]
  · cases h
    simp_all [Instr.opcode, Instr.fieldA, Instr.fieldB, Instr.fieldC, Instr.wf]

/-- Settles O2: a legal word has `Z` zero, so it is the packing of its fields, and these are the operation's. -/
theorem encodeOfDecode : Obligations.EncodeOfDecode := by
  intro w i h
  unfold decode at h
  split at h
  · rename_i hz
    obtain ⟨⟨hopc, ha, hb, hc⟩, hwf⟩ := decodeFields_eq_op h
    exact ⟨by rw [encode, hopc, ha, hb, hc, packQ_fields hz], hwf⟩
  · cases h

/-- Settles O3: ten closed words. -/
theorem referenceWordsDecode : Obligations.ReferenceWordsDecode := by
  unfold Obligations.ReferenceWordsDecode
  decide

/-! ## Illegal words -/

/-- Which fields are illegal, `Z` aside (R97). -/
theorem decodeFields_illegal (o : Octet) (a b c : Half) :
    (∃ why, decodeFields o a b c = .illegal why) ↔
      o ∉ [0x01#8, 0x02#8, 0x10#8, 0x11#8, 0x12#8, 0x13#8, 0x14#8] ∨
        (o ∈ [0x10#8, 0x11#8, 0x12#8] ∧ ¬(a = 0#16 ∧ b = 0#16 ∧ c = 0#16)) ∨
        (o ∈ [0x01#8, 0x02#8, 0x13#8] ∧ c ≠ 0#16) := by
  unfold decodeFields
  split_ifs <;> simp_all [ifUnusedZero_illegal]

/-- A field as format `Q` places it is its word shifted down and masked (R91). -/
theorem extractLsb'_setWidth (w : RequestWord) (k n : Nat) (hn : n ≤ 64) :
    (w.extractLsb' k n).setWidth 64 = (w >>> k) &&& BitVec.ofNat 64 (2 ^ n - 1) := by
  apply BitVec.eq_of_toNat_eq
  have hlt : 2 ^ n - 1 < 2 ^ 64 := by
    have := Nat.pow_le_pow_right (n := 2) (by decide) hn
    have := Nat.two_pow_pos n
    omega
  rw [BitVec.toNat_setWidth_of_le hn, BitVec.extractLsb'_toNat, BitVec.toNat_and, BitVec.toNat_ushiftRight,
    BitVec.toNat_ofNat, Nat.mod_eq_of_lt hlt, Nat.and_two_pow_sub_one_eq_mod]

/-- The operation code is what is left above it (R91). -/
theorem opcField_setWidth (w : RequestWord) : (opcField w).setWidth 64 = w >>> 56 := by
  apply BitVec.eq_of_toNat_eq
  simp only [opcField, BitVec.toNat_setWidth, BitVec.extractLsb'_toNat, BitVec.toNat_ushiftRight,
    Nat.shiftRight_eq_div_pow]
  omega

theorem zField_setWidth (w : RequestWord) : (zField w).setWidth 64 = (w >>> 48) &&& 0xFF#64 :=
  extractLsb'_setWidth w 48 8 (by decide)

theorem cField_setWidth (w : RequestWord) : (cField w).setWidth 64 = w &&& 0xFFFF#64 :=
  (extractLsb'_setWidth w 0 16 (by decide)).trans (by simp)

/-- The three operand fields are zero together exactly when the low 48 bits are (R91). -/
theorem operandFields_eq_zero (w : RequestWord) :
    (aField w = 0#16 ∧ bField w = 0#16 ∧ cField w = 0#16) ↔ w &&& 0xFFFFFFFFFFFF#64 = 0#64 := by
  have hlow : (w.extractLsb' 0 48).setWidth 64 = w &&& 0xFFFFFFFFFFFF#64 :=
    (extractLsb'_setWidth w 0 48 (by decide)).trans (by simp)
  rw [← hlow]
  simp only [← BitVec.toNat_inj, aField, bField, cField, BitVec.toNat_setWidth, BitVec.extractLsb'_toNat,
    BitVec.toNat_ofNat, Nat.shiftRight_eq_div_pow]
  omega

theorem setWidth_eq_zero {n : Nat} (hn : n ≤ 64) (x : BitVec n) : x.setWidth 64 = 0#64 ↔ x = 0#n := by
  rw [← BitVec.toNat_inj, ← BitVec.toNat_inj, BitVec.toNat_setWidth_of_le hn]
  simp

/-- The operation code is one of a list of codes exactly when the word's top bits are (R92). -/
theorem opcField_mem (w : RequestWord) (os : List Octet) : w >>> 56 ∈ os.map (·.setWidth 64) ↔ opcField w ∈ os := by
  rw [← opcField_setWidth]
  refine List.mem_map_of_injective fun x y hxy => ?_
  have := congrArg BitVec.toNat hxy
  rw [BitVec.toNat_setWidth_of_le (by decide), BitVec.toNat_setWidth_of_le (by decide)] at this
  exact BitVec.eq_of_toNat_eq this

/-- R97: which words are illegal, written on the word. -/
theorem decode_illegal_iff (w : RequestWord) : (∃ why, decode w = .illegal why) ↔
    (w >>> 56 ∉ [0x01#64, 0x02#64, 0x10#64, 0x11#64, 0x12#64, 0x13#64, 0x14#64] ∨
      (w >>> 48) &&& 0xFF#64 ≠ 0#64 ∨
      (w >>> 56 ∈ [0x10#64, 0x11#64, 0x12#64] ∧ w &&& 0xFFFFFFFFFFFF#64 ≠ 0#64) ∨
      (w >>> 56 ∈ [0x01#64, 0x02#64, 0x13#64] ∧ w &&& 0xFFFF#64 ≠ 0#64)) := by
  have hz : (w >>> 48) &&& 0xFF#64 = 0#64 ↔ zField w = 0#8 :=
    zField_setWidth w ▸ setWidth_eq_zero (by decide) _
  have hc : w &&& 0xFFFF#64 = 0#64 ↔ cField w = 0#16 := cField_setWidth w ▸ setWidth_eq_zero (by decide) _
  have hfields := decodeFields_illegal (opcField w) (aField w) (bField w) (cField w)
  rw [operandFields_eq_zero, ← opcField_mem, ← opcField_mem, ← opcField_mem, ne_eq, ← hc] at hfields
  by_cases h0 : zField w = 0#8
  · rw [decode, if_pos h0, hfields]
    simp only [ne_eq, hz, h0, not_true_eq_false, false_or]
    rfl
  · rw [decode, if_neg h0]
    exact ⟨fun _ => .inr (.inl (hz.not.mpr h0)), fun _ => ⟨_, rfl⟩⟩

end Sys2Proof
end

section
/-! SUPPORT. Which turn a step takes, request by request (30_encoding.md R97, R101; 20_memory.md R70), and that no turn
faults (20_memory.md R76). -/

namespace Sys2Proof.Machine

variable {s t : State} {q : Request} {qs : List Request} {i : Instr}

/-! ## Issuing a request -/

theorem State.issue_illegal {w : RequestWord} {why : Illegal} (h : decode w = .illegal why) :
    s.issue w = .done (s.answerIllegal w) := by
  simp only [State.issue, h]

/-- A request runs unless it is one for `MDC` while an MDIO operation is open (R70). -/
theorem State.issue_run {w : RequestWord} (h : decode w = .op i) (hfree : componentOf i = .mdc → s.mdioSeq = .idle) :
    s.issue w = .run i s := by
  simp only [State.issue, h]
  exact if_neg fun ⟨hmdc, hopen⟩ => hopen (hfree hmdc)

theorem State.issue_busy {w : RequestWord} (h : decode w = .op i) (hmdc : componentOf i = .mdc)
    (hopen : s.mdioSeq ≠ .idle) : s.issue w = .refuse (.componentBusy .mdc) := by
  simp only [State.issue, h]
  exact if_pos ⟨hmdc, hopen⟩

/-! ## The turn after LINE's opportunity -/

/-- A request that waits for the response before it is issued when no MDIO operation is open (R101). -/
theorem State.turn_request (hidle : s.mdioSeq = .idle) (hr : s.requests = q :: qs) (hq : q.overlap = none) :
    s.lineTurn.turn = (s.takeRequest qs).issue q.word := by
  have hidle' : s.lineTurn.mdioSeq = .idle := by simpa using hidle
  unfold State.turn
  rw [s.lineTurn_requests, hr]
  simp only [hq, if_pos hidle']
  rfl

/-- A request that overlaps is issued when its steps have passed (R70, R257). -/
theorem State.turn_due (hr : s.requests = q :: qs) (hq : q.overlap = some 0) :
    s.lineTurn.turn = (s.takeRequest qs).issue q.word := by
  unfold State.turn
  rw [s.lineTurn_requests, hr]
  simp only [hq]
  rfl

/-- Until then it has one step less to wait. -/
theorem State.turn_counting (hr : s.requests = q :: qs) {n : Nat} (hq : q.overlap = some (n + 1)) :
    s.lineTurn.turn = (s.takeRequest ({ q with overlap := some n } :: qs)).goOn := by
  unfold State.turn
  rw [s.lineTurn_requests, hr]
  simp only [hq]
  rfl

/-- With no request left, or one that waits, the open operation goes on. -/
theorem State.turn_open (hopen : s.mdioSeq ≠ .idle) (hr : ∀ q ∈ s.requests.head?, q.overlap = none) :
    s.lineTurn.turn = s.lineTurn.goOn := by
  have hopen' : s.lineTurn.mdioSeq ≠ .idle := by simpa using hopen
  unfold State.turn
  rw [s.lineTurn_requests]
  cases hs : s.requests with
  | nil => rfl
  | cons q qs =>
    have hq : q.overlap = none := hr q (by simp [hs])
    simp only [hq, if_neg hopen']

theorem State.goOn_open (hi : s.mdioSeq.instr = some i) : s.goOn = .run i s := by
  simp only [State.goOn, hi]

theorem MdioSeq.ne_idle_of_instr {m : MdioSeq} (hi : m.instr = some i) : m ≠ .idle := by
  rintro rfl
  cases hi

/-! ## What the operation of a turn answers -/

/-- Every MDIO operation other than the open one is refused (R70, D25). -/
theorem exec_mdc_busy (hopen : s.mdioSeq ≠ .idle) (hi : componentOf i = .mdc) (hother : s.mdioSeq.instr ≠ some i) :
    exec i s = .refused (.componentBusy .mdc) := by
  cases i with
  | setInterfaceMode p m => cases hi
  | setLinkSpeed p v => cases hi
  | computeDivider => cases hs : s.mdioSeq <;> simp_all [exec, execComputeDivider]
  | reset => cases hs : s.mdioSeq <;> simp_all [exec, execReset, MdioSeq.instr]
  | waitNotBusy => cases hs : s.mdioSeq <;> simp_all [exec, execWaitNotBusy, MdioSeq.instr]
  | read a r => cases hs : s.mdioSeq <;> simp_all [exec, execRead, MdioSeq.instr]
  | write a r v => cases hs : s.mdioSeq <;> simp_all [exec, execWrite, MdioSeq.instr]

/-- A selector operation is refused while the selector sequencer runs (R70, D25). -/
theorem exec_sel_busy (hrun : s.selSeq = .running) (hi : componentOf i = .sel) :
    exec i s = .refused (.componentBusy .sel) := by
  obtain ⟨p, ⟨m, rfl⟩ | ⟨v, rfl⟩⟩ := exists_port_of_sel hi
  · simp only [exec, execSetInterfaceMode, hrun]
  · simp only [exec, execSetLinkSpeed, hrun]

/-- With both sequencers idle any operation answers a next state. -/
theorem exec_idle_answers (hc : s.cfg.Valid) (hsel : s.selSeq = .idle) (hmdio : s.mdioSeq = .idle) (i : Instr) :
    ∃ t, exec i s = .next t := by
  cases hi : componentOf i with
  | sel =>
    obtain ⟨t, _, _, hx, -⟩ := exec_sel_answers hc hsel hi
    exact ⟨t, hx⟩
  | mdc => exact ⟨_, exec_start hc hmdio hi⟩

/-- An operation of a valid configuration answers a next state, or its component is busy. -/
theorem exec_answers (hc : s.cfg.Valid) (i : Instr) :
    (∃ t, exec i s = .next t) ∨ exec i s = .refused (.componentBusy (componentOf i)) := by
  cases hi : componentOf i with
  | sel =>
    cases hs : s.selSeq with
    | idle =>
      obtain ⟨t, _, _, hx, -⟩ := exec_sel_answers hc hs hi
      exact .inl ⟨t, hx⟩
    | running => exact .inr (exec_sel_busy hs hi)
  | mdc =>
    by_cases hidle : s.mdioSeq = .idle
    · exact .inl ⟨_, exec_start hc hidle hi⟩
    · by_cases hopen : s.mdioSeq.instr = some i
      · exact .inl ⟨_, exec_open hc hopen⟩
      · exact .inr (exec_mdc_busy hidle hi hopen)

/-- A micro-step leaves the requests and the selector sequencer alone. -/
theorem State.MicroStep.keeps (h : s.MicroStep i t) : t.requests = s.requests ∧ t.selSeq = s.selSeq := by
  cases h with
  | goesOn hu => exact ⟨hu.requests, hu.selSeq⟩
  | answers hu => exact ⟨hu.requests, hu.selSeq⟩

/-- So does every operation that answers, but for the end of a selector operation. -/
theorem exec_keeps (hc : s.cfg.Valid) (hx : exec i s = .next t) :
    t.requests = s.requests ∧ (s.selSeq = .idle → t.selSeq = .idle) := by
  cases hi : componentOf i with
  | sel =>
    obtain ⟨u, _, _, hu, hrequests, hselSeq, -⟩ := exec_sel_answers hc (exec_sel_idle hi hx) hi
    cases hu.symm.trans hx
    exact ⟨hrequests, fun _ => hselSeq⟩
  | mdc =>
    have hmdc : t.requests = s.requests ∧ t.selSeq = s.selSeq := by
      obtain ⟨-, rfl⟩ | ⟨hopen, rfl⟩ := exec_mdc_cases hc hi hx
      · obtain ⟨r, hstart, -⟩ | ⟨hfirst, hstart⟩ := s.mdcStart_cases hi
        · rw [hstart]
          exact ⟨rfl, rfl⟩
        · rw [hstart]
          exact (State.mdcNext_microStep (s := s.openMdc i (firstPos s.cfg i)) hfirst).keeps
      · exact (State.mdcNext_microStep hopen).keeps
    exact ⟨hmdc.1, hmdc.2.trans⟩

/-- A step of a valid configuration answers a next state, or refuses a request to a busy component. -/
theorem step_answers (hc : s.cfg.Valid) :
    (∃ t, step s = .next t) ∨ ∃ c, step s = .refused (.componentBusy c) := by
  obtain ⟨rs, hcase⟩ := s.lineTurn.turn_cases
  have hrun : ∀ i, s.lineTurn.turn = .run i { s.lineTurn with requests := rs } →
      (∃ t, step s = .next t) ∨ ∃ c, step s = .refused (.componentBusy c) := fun i hi => by
    rw [step_valid hc, hi]
    exact (exec_answers (s := { s.lineTurn with requests := rs }) (by simpa using hc) i).imp id fun h => ⟨_, h⟩
  obtain ⟨h, -⟩ | ⟨w, h⟩ | ⟨i, h, -⟩ | ⟨i, h, -⟩ | ⟨i, h, -⟩ | h := hcase
  · exact .inl ⟨_, by rw [step_valid hc, h]⟩
  · exact .inl ⟨_, by rw [step_valid hc, h]⟩
  · exact hrun i h
  · exact hrun i h
  · exact hrun i h
  · exact .inr ⟨_, by rw [step_valid hc, h]⟩

end Sys2Proof.Machine
end

section
/-! SUPPORT. The statements about one step of the machine (30_encoding.md R97, R101; 20_memory.md R70;
60_exceptions.md R227). -/

namespace Sys2Proof

open Machine

/-- Settles O4: the codes and the fields of a word are read off the word; an illegal request is answered by HOST's
turn. -/
theorem illegalRequests : Obligations.IllegalRequests := by
  refine ⟨decode_illegal_iff, fun s q qs why hc hidle hr hq hw => ?_⟩
  rw [step_valid hc, State.turn_request hidle hr hq, State.issue_illegal hw]
  simp [State.answerIllegal, State.record, State.takeRequest]

/-- Settles O6: the request is due and its component is free. -/
theorem stepRunsTheRequest : Obligations.StepRunsTheRequest := by
  intro s q qs i hc hidle hr hq hi
  rw [step_valid hc, State.turn_request hidle hr hq, State.issue_run hi fun _ => by simpa using hidle]
  rfl

/-- Settles O7: nothing is due, so the open operation goes on. -/
theorem stepGoesOnWithTheOpenOperation : Obligations.StepGoesOnWithTheOpenOperation := by
  intro s i hc hi
  have hopen := MdioSeq.ne_idle_of_instr hi
  have hgoes : s.lineTurn.goOn = .run i s.lineTurn := State.goOn_open (by simpa using hi)
  refine ⟨fun hr => ?_, fun q qs hr => ⟨fun hq => ?_, fun n hq => ?_⟩⟩
  · rw [step_valid hc, State.turn_open hopen (by simp [hr]), hgoes]
  · rw [step_valid hc, State.turn_open hopen (by simpa [hr] using hq), hgoes]
  · rw [step_valid hc, State.turn_counting hr hq, State.goOn_open (i := i) (by simpa using hi)]
    rfl

/-- Settles O8: an overlapping request that is due is issued, and then its component decides. -/
theorem overlappingRequests : Obligations.OverlappingRequests := by
  intro s q qs i hc hopen hr hq hi
  have hopen' : (s.takeRequest qs).mdioSeq ≠ .idle := by simpa using hopen
  have hsel : componentOf i = .sel → step s = exec i (s.takeRequest qs) := fun h => by
    rw [step_valid hc, State.turn_due hr hq, State.issue_run hi fun hmdc => by rw [h] at hmdc; cases hmdc]
  refine ⟨hsel, fun h => ?_, fun h hrun => ?_, fun h hother => exec_mdc_busy hopen h hother⟩
  · rw [step_valid hc, State.turn_due hr hq, State.issue_busy hi h hopen']
  · rw [hsel h, exec_sel_busy (by simpa using hrun) h]

/-- Settles O9: under a valid configuration a step that refuses names a busy component. -/
theorem configurationsRefused : Obligations.ConfigurationsRefused := by
  refine fun s => ⟨fun h hc => ?_, fun hc => if_neg hc⟩
  obtain ⟨t, ht⟩ | ⟨c, ht⟩ := step_answers hc <;> rw [ht] at h <;> cases h

/-- Settles O54: the same, component by component. -/
theorem noStepFaults : Obligations.NoStepFaults := by
  intro s hc
  obtain h | ⟨c, h⟩ := step_answers hc
  · exact .inl h
  · cases c with
    | sel => exact .inr (.inl h)
    | mdc => exact .inr (.inr h)

/-- Settles O55: a waiting request never meets a running component, and every operation leaves the requests and the
idle selector as they are. -/
theorem serialHostNeverStops : Obligations.SerialHostNeverStops := by
  intro s hc hserial hsel
  have hturn : s.lineTurn.SerialHost := State.lineTurn_serialHost hserial
  by_cases hidle : s.mdioSeq = .idle
  · cases hr : s.requests with
    | nil =>
      refine ⟨s.lineTurn, ?_, hturn, by simpa using hsel⟩
      rw [step_valid hc, State.turn, s.lineTurn_requests, hr]
      simp [State.goOn, hidle, MdioSeq.instr]
    | cons q qs =>
      have hrest : (s.takeRequest qs).SerialHost := fun q' hq' => hserial q' (hr ▸ List.mem_cons_of_mem q hq')
      cases hi : decode q.word with
      | illegal why =>
        refine ⟨(s.takeRequest qs).answerIllegal q.word, ?_, hrest, (s.takeRequest_selSeq qs).trans hsel⟩
        rw [step_valid hc, State.turn_request hidle hr (hserial q (by simp [hr])), State.issue_illegal hi]
      | op i =>
        have hc' : (s.takeRequest qs).cfg.Valid := by simpa using hc
        have hsel' : (s.takeRequest qs).selSeq = .idle := by simpa using hsel
        obtain ⟨t, hx⟩ := exec_idle_answers hc' hsel' (by simpa using hidle) i
        obtain ⟨hrequests, hselSeq⟩ := exec_keeps hc' hx
        refine ⟨t, by rw [step_request hc hserial hidle hr hi, hx], ?_, hselSeq hsel'⟩
        rw [State.SerialHost, hrequests]
        exact hrest
  · obtain ⟨i, hi⟩ := MdioSeq.exists_instr hidle
    obtain ⟨hrequests, hselSeq⟩ := (State.mdcNext_microStep (s := s.lineTurn) (by simpa using hi)).keeps
    refine ⟨_, step_open hc hserial hi, ?_, by simpa [hselSeq] using hsel⟩
    rw [State.SerialHost, hrequests]
    exact hturn

end Sys2Proof
end

section
/-! SUPPORT. The statements about power-on and the address map (10_state.md R40, R42; 20_memory.md R61, R62). -/

namespace Sys2Proof

open Machine

/-- At power-on the busy bit follows the cycle in flight, on the levels that have a line (R40, R192). -/
theorem powerOn_busyFollowsPending {l : Launch} (hc : l.cfg.Valid) : (State.powerOn l).BusyFollowsPending := by
  rw [State.BusyFollowsPending]
  simp only [State.powerOn, powerOnInd, powerOnPending]
  cases hl : l.level with
  | openLine => exact .inl rfl
  | simPhy n => simp [Config.busyIn]
  | wellBehaved =>
    cases hp : l.pending with
    | none => simp [Config.busyIn_clear]
    | some c => simp [hc.busyIn_set]

/-- Settles O10: the fields R40 fixes are written into `State.powerOn`, the rest comes from the launch level by
level. -/
theorem powerOn : Obligations.PowerOn := by
  intro l
  refine ⟨rfl, rfl, rfl, rfl, rfl, rfl, rfl, rfl, rfl, rfl, rfl, rfl, rfl, rfl, rfl, rfl, rfl, rfl, fun hl => ?_,
    fun hl => ?_, fun n hl => ?_⟩
  · simp [State.powerOn, powerOnCmd, powerOnStatus, powerOnInd, powerOnPending, hl]
  · refine ⟨by simp [State.powerOn, powerOnCmd, hl], by simp [State.powerOn, powerOnStatus, hl],
      by simp [State.powerOn, powerOnPending, hl], ?_, fun hc => ?_⟩
    · simp only [State.powerOn, powerOnInd, hl]
      cases l.pending with
      | none => rw [BitVec.and_assoc, BitVec.and_self]
      | some c => simp [BitVec.and_or_distrib_right]
    · have := powerOn_busyFollowsPending hc
      simpa [State.BusyFollowsPending, State.powerOn, powerOnPending, hl] using this
  · simp [State.powerOn, powerOnCmd, powerOnStatus, powerOnInd, powerOnPending, hl, Config.busyIn]

/-- Settles O50: no operation is open at power-on, so only the configuration, the cells and the busy bit matter. -/
theorem invariantAtPowerOn : Obligations.InvariantAtPowerOn := by
  have hinv : ∀ l : Launch, l.cfg.Valid → l.phy.wf = true → (State.powerOn l).Inv := fun l hc hwf =>
    ⟨hc, hwf, powerOn_busyFollowsPending hc, rfl, ⟨nofun, nofun⟩, .inr (.inl rfl)⟩
  exact ⟨hinv, hinv Launch.reference (by decide) rfl, .inl rfl⟩

/-- The window and the offset of a register. -/
def Config.place (c : Config) : Reg → Window × Nat
  | .miictrl0 => (.selwin, c.portOffset 0)
  | .miictrl1 => (.selwin, c.portOffset 1)
  | .cfg => (.mdiowin, c.cfgOff)
  | .cmd => (.mdiowin, c.cmdOff)
  | .addr => (.mdiowin, c.addrOff)
  | .ctrl => (.mdiowin, c.ctrlOff)
  | .status => (.mdiowin, c.statusOff)
  | .ind => (.mdiowin, c.indOff)

/-- A register is found at its own place only (R61, R62, R76). -/
theorem Config.place_of_regAt {c : Config} {win : Window} {off : Nat} {r : Reg} (h : c.regAt win off = some r) :
    c.place r = (win, off) := by
  unfold Config.regAt at h
  split at h <;> split_ifs at h <;> cases h <;> simp_all [Config.place]

/-- Every place is word-aligned (R11, R12). -/
theorem Config.Valid.place_aligned {c : Config} (hc : c.Valid) (r : Reg) : (c.place r).2 % 4 = 0 := by
  obtain ⟨-, ⟨hstride, -⟩, -, hoffsets, -⟩ := hc
  simp only [Config.mdioOffsets, List.forall_mem_cons] at hoffsets
  obtain ⟨hcfg, hcmd, haddr, hctrl, hstatus, hind, -⟩ := hoffsets
  cases r <;> simp [Config.place, Config.portOffset, *]

/-- Settles O39: a register's place is its window and its offset. -/
theorem addressMap : Obligations.AddressMap := by
  intro c hc
  refine ⟨fun p hp => regAt_portOffset hc hp, hc.regAt_cfg, hc.regAt_cmd, hc.regAt_addr, hc.regAt_ctrl, hc.regAt_status,
    hc.regAt_ind, fun win win' off off' r h => ?_⟩
  have hplace := Config.place_of_regAt h
  have haligned := hc.place_aligned r
  rw [hplace] at haligned
  refine ⟨haligned, fun h' => ?_⟩
  have := (Config.place_of_regAt h').symm.trans hplace
  simpa using this

/-- The word of `ADDR` in arithmetic (R30). -/
theorem packAddr_toNat (a r : Half) : (packAddr a r).toNat = a.toNat % 256 * 256 + r.toNat % 256 := by
  have hhigh : ((maskOctet a).setWidth 32 <<< 8).toNat = (a.toNat % 256) <<< 8 := by
    rw [BitVec.toNat_shiftLeft, BitVec.toNat_setWidth_of_le (by decide), maskOctet_toNat, Nat.shiftLeft_eq]
    omega
  rw [packAddr, BitVec.toNat_or, hhigh, BitVec.toNat_setWidth_of_le (by decide), maskOctet_toNat,
    ← Nat.shiftLeft_add_eq_or_of_lt (Nat.mod_lt _ (by decide)), Nat.shiftLeft_eq]

/-- Settles O32: `ADDR` is read back byte by byte. -/
theorem addressPacking : Obligations.AddressPacking := by
  intro a r a' r'
  refine ⟨packAddr_toNat a r, ?_, by rw [phyOfAddr_packAddr, maskOctet_toNat],
    by rw [regOfAddr_packAddr, maskOctet_toNat]⟩
  rw [← BitVec.toNat_inj, packAddr_toNat, packAddr_toNat]
  omega

end Sys2Proof
end

section
/-! SUPPORT. The statements about `set_interface_mode`'s refusals, `set_link_speed` and the frame of both
(40_interface_selector.md R120 to R133). -/

namespace Sys2Proof

open Machine

variable {s : State}

/-! ## Requests that are refused -/

/-- A request just accepted whose port bound fails (R120). -/
theorem openSel_selectorNext_outOfRange (hs : s.selSeq = .idle) (i : Instr) {p : Half} {f : Word → Option Word}
    (hp : s.cfg.portCount ≤ p.toNat) :
    (s.openSel i).selectorNext p.toNat f =
      { s with history := s.history ++ [.req i, .resp (some .sel) (.error .invalidArgument)] } := by
  rw [State.selectorNext_outOfRange (s := s.openSel i) f hp]
  simp [State.openSel, State.answerSel, State.record, ← hs]

/-- A request just accepted that a check after the load refuses (R122, R134). -/
theorem openSel_selectorNext_refuses (hs : s.selSeq = .idle) (i : Instr) {p : Half} {f : Word → Option Word}
    (hp : p.toNat < s.cfg.portCount) (hv : f (if p = 0#16 then s.miictrl0 else s.miictrl1) = none) :
    (s.openSel i).selectorNext p.toNat f =
      { s with history := s.history ++ [.req i,
        .ld .selwin (p.toNat * s.cfg.stride) (if p = 0#16 then s.miictrl0 else s.miictrl1),
        .resp (some .sel) (.error .invalidArgument)] } := by
  have hword := (s.openSel i).portWord_toNat p
  rw [State.selectorNext_refuses (s := s.openSel i) hp (hword ▸ hv), hword]
  simp [State.openSel, State.answerSel, State.record, ← hs, Config.portOffset]

/-- The three checks of `set_interface_mode` that can fail after the load (R94, R124, R125). -/
theorem Config.modeWord_eq_none {c : Config} {p : Half} {m : ModeOperand}
    (h : (∃ n, m = .unnamed n) ∨ (m = .named .gmii ∨ m = .named .mii) ∧ p ≠ 0#16 ∨
      (m = .named .gmii ∨ m = .named .rgmii) ∧ c.supportsGigabit = false) (w : Word) :
    c.modeWord p.toNat m w = none := by
  have hp : p.toNat = 0 ↔ p = 0#16 := by bv_omega
  obtain ⟨n, rfl⟩ | ⟨rfl | rfl, h⟩ | ⟨rfl | rfl, h⟩ := h
  · rfl
  all_goals simp [Config.modeWord, Mode.port0Only, Mode.gigabit, hp, h]

/-- Settles O12: the port bound, or a check after the load. -/
theorem setInterfaceModeRefuses : Obligations.SetInterfaceModeRefuses := by
  intro s p m hc hidle
  rw [exec_setInterfaceMode hc hidle]
  exact ⟨fun hp => by rw [openSel_selectorNext_outOfRange hidle _ hp],
    fun hp h => by rw [openSel_selectorNext_refuses hidle _ hp (Config.modeWord_eq_none h _)]⟩

/-- The two checks of `set_link_speed` that can fail after the load (R131, R132). -/
theorem Config.linkWord_eq_none {c : Config} {p : Nat} {v : Half} {w : Word}
    (h : v ∉ [10#16, 100#16, 1000#16] ∨ v = 1000#16 ∧ (w >>> c.selectShift) &&& 1#32 = 1#32) :
    c.linkWord p v w = none := by
  obtain h | ⟨rfl, h⟩ := h
  · simp only [List.mem_cons, List.not_mem_nil, or_false, not_or] at h
    obtain ⟨h10, h100, h1000⟩ := h
    simp [Config.linkWord, speedCodeOf, h10, h100, h1000]
  · simp [Config.linkWord, speedCodeOf, Config.selectCode_and_one, h]

/-- Settles O14: the port bound, or a check after the load. -/
theorem setLinkSpeedRefuses : Obligations.SetLinkSpeedRefuses := by
  intro s p v hc hidle w
  rw [exec_setLinkSpeed hc hidle]
  exact ⟨fun hp => by rw [openSel_selectorNext_outOfRange hidle _ hp],
    fun hp h => by rw [openSel_selectorNext_refuses hidle _ hp (Config.linkWord_eq_none h)]⟩

/-! ## The word `set_link_speed` stores -/

/-- The three speeds keep the select code, 1000 Mbps only if it is even (R131, R132). -/
theorem Config.linkWord_speed {c : Config} {p : Nat} {v : Half} {code w : Word}
    (hv : v = 10#16 ∧ code = 0 ∨ v = 100#16 ∧ code = 1 ∨ v = 1000#16 ∧ code = 2)
    (heven : v = 1000#16 → c.selectCode p w &&& 1#32 = 0#32) :
    c.linkWord p v w = some (c.packSelector (c.selectCode p w) code) := by
  obtain ⟨rfl, rfl⟩ | ⟨rfl, rfl⟩ | ⟨rfl, rfl⟩ := hv
  · rfl
  · rfl
  · simp [Config.linkWord, speedCodeOf, heven]

/-- Settles O13: the checks pass, so the word packed from the two codes is stored, and it is its own read-back. -/
theorem setLinkSpeedAccepts : Obligations.SetLinkSpeedAccepts := by
  intro s p v code hc hidle hp hv w sel heven new off
  have hone : p.toNat = 1 ↔ p = 1#16 := by bv_omega
  have hsel : s.cfg.selectCode p.toNat w = sel := by simp only [Config.selectCode, selectMask, hone, sel]
  have hword : s.cfg.linkWord p.toNat v w = some new := by
    rw [Config.linkWord_speed hv (hsel ▸ heven), hsel]
    rfl
  rw [exec_setLinkSpeed hc hidle, State.openSel_selectorNext_stores hidle _ hp hword]

/-- Settles O17: a selector operation ends as it began but for the port words and the history, and stores to no other
port. -/
theorem selectorFrame : Obligations.SelectorFrame := by
  intro s t i p hc hi hx
  have hcomp : componentOf i = .sel := by obtain ⟨m, rfl⟩ | ⟨v, rfl⟩ := hi <;> rfl
  have hidle := exec_sel_idle hcomp hx
  have hother : ∀ q < 2, q ≠ p.toNat → t.portWord q = s.portWord q := by
    obtain ⟨-, ⟨hsame, -⟩ | ⟨-, hothers⟩⟩ := exec_sel_cases hc hi hx
    · exact fun q _ _ => hsame q
    · exact hothers
  refine ⟨?_, fun hp => hother 0 (by decide) fun h0 => hp (by bv_omega),
    fun hp => hother 1 (by decide) fun h1 => hp (by bv_omega)⟩
  obtain ⟨m, rfl⟩ | ⟨v, rfl⟩ := hi
  · rw [exec_setInterfaceMode hc hidle] at hx
    cases hx
    rw [State.selectorNext_frame]
    simp [State.openSel, State.record, ← hidle]
  · rw [exec_setLinkSpeed hc hidle] at hx
    cases hx
    rw [State.selectorNext_frame]
    simp [State.openSel, State.record, ← hidle]

end Sys2Proof
end

section
/-! SUPPORT. The divider search and the micro-steps of `reset` (41_mdio_controller.md R150 to R155). -/

namespace Sys2Proof

open Machine

variable {s : State}

/-! ## The divider search -/

/-- The scan stops at the first entry that fits, or runs through the table (R150, R151, R153). -/
theorem scanDivider_cases (hz target last : Nat) (ds : List Nat) :
    (∃ k : Nat, ds[k]? = some (scanDivider hz target last ds) ∧ hz / scanDivider hz target last ds ≤ target ∧
        ∀ j : Nat, j < k → ∀ e, ds[j]? = some e → target < hz / e) ∨
      ((∀ e ∈ ds, target < hz / e) ∧ scanDivider hz target last ds = last) := by
  induction ds with
  | nil => exact .inr ⟨List.forall_mem_nil _, rfl⟩
  | cons d ds ih =>
    rw [scanDivider]
    split
    · rename_i hd
      exact .inl ⟨0, rfl, hd, nofun⟩
    · rename_i hd
      have hd := Nat.lt_of_not_le hd
      obtain ⟨k, hk, hfits, hbefore⟩ | ⟨hall, hlast⟩ := ih
      · refine .inl ⟨k + 1, hk, hfits, fun j hj e he => ?_⟩
        cases j with
        | zero => cases he; exact hd
        | succ j => exact hbefore j (by omega) e he
      · exact .inr ⟨List.forall_mem_cons.mpr ⟨hd, hall⟩, hlast⟩

theorem Config.divider_some {c : Config} {hz : Nat} (h : hz ≠ 0) :
    c.divider (some hz) = some (scanDivider hz c.targetRate (c.dividerTable.getLastD 0) c.dividerTable) := by
  obtain ⟨n, rfl⟩ := Nat.exists_eq_succ_of_ne_zero h
  rfl

theorem Config.divider_none {c : Config} {q : Option Nat} (h : q = none ∨ q = some 0) : c.divider q = none := by
  obtain rfl | rfl := h <;> rfl

/-- The last entry of a table that is not empty (R153). -/
theorem Config.Valid.getLast?_dividerTable {c : Config} (hc : c.Valid) :
    c.dividerTable.getLast? = some (c.dividerTable.getLastD 0) := by
  obtain ⟨⟨-, hne, -⟩, -⟩ := hc
  rw [List.getLastD_eq_getLast?, List.getLast?_eq_getLast_of_ne_nil hne]
  rfl

/-- What the search finds is an entry of the table (R150). -/
theorem Config.Valid.divider_mem {c : Config} (hc : c.Valid) {q : Option Nat} {d : Nat} (h : c.divider q = some d) :
    d ∈ c.dividerTable := by
  unfold Config.divider at h
  split at h
  · cases h
  · cases h
  · rename_i hz _
    cases h
    obtain ⟨k, hk, -⟩ | ⟨-, hlast⟩ := scanDivider_cases hz c.targetRate (c.dividerTable.getLastD 0) c.dividerTable
    · exact List.mem_of_getElem? hk
    · rw [hlast]
      exact List.mem_of_getLast? hc.getLast?_dividerTable

/-- Settles O18: the scan, and the last entry as its fallback. -/
theorem computeDividerResult : Obligations.ComputeDividerResult := by
  intro s hz hc hidle href hne
  have hdivider := Config.divider_some (c := s.cfg) hne
  have hscan := scanDivider_cases hz s.cfg.targetRate (s.cfg.dividerTable.getLastD 0) s.cfg.dividerTable
  generalize scanDivider _ _ _ _ = d at hdivider hscan
  refine ⟨d, ?_, hscan.imp id fun ⟨hall, hlast⟩ => ⟨hall, hlast ▸ hc.getLast?_dividerTable⟩⟩
  rw [exec_start hc hidle rfl, State.mdcStart, href, hdivider]
  simp [State.openMdc, State.answerMdc, State.record, ← hidle, ← href]

/-- Settles O34: it either answers or is refused, and only records. -/
theorem computeDividerFrame : Obligations.ComputeDividerFrame := by
  intro s t hx
  simp only [exec, execComputeDivider] at hx
  split at hx
  · rename_i hidle
    split at hx <;> cases hx <;> simp [State.openMdc, State.answerMdc, State.record, ← hidle]
  · cases hx

/-! ## The micro-steps of `reset` -/

/-- The next answer of the clock provider is `q`; `qs` and `n` are what is left of the list and the counter (R257). -/
def ClkAnswers (s : State) (q : Option Nat) (qs : List (Option Nat)) (n : Nat) : Prop :=
  s.clkAnswers = q :: qs ∧ n = s.drawn ∨
    s.clkAnswers = [] ∧ q = Config.freeClk s.drawn ∧ qs = [] ∧ n = s.drawn + 1

theorem drawClk_eq {q : Option Nat} {qs : List (Option Nat)} {n : Nat} (h : ClkAnswers s q qs n) :
    s.drawClk = (q, { s with clkAnswers := qs, drawn := n }) := by
  obtain ⟨hq, rfl⟩ | ⟨hq, rfl, rfl, rfl⟩ := h
  · simp [State.drawClk, hq]
  · simp [State.drawClk, hq]

/-- The query micro-step of a `reset` request (R154, R155): no register is accessed, so no constraint matters. -/
theorem exec_reset_query (hidle : s.mdioSeq = .idle) {q : Option Nat} {qs : List (Option Nat)} {n : Nat}
    (h : ClkAnswers s q qs n) :
    exec .reset s = .next (State.resetWithClock { s with
      clkAnswers := qs, drawn := n, mdioSeq := .reset .query
      history := s.history ++ [.req .reset, .clkQuery q] } q) := by
  have hdraw := drawClk_eq (s := s.openMdc .reset (.reset .query)) h
  simp only [exec, execReset, hidle, State.resetStep, answerOf, State.clkQuery, hdraw]
  simp [State.openMdc, State.record]

theorem exec_reset_clock (hidle : s.mdioSeq = .idle) {q : Option Nat} {qs : List (Option Nat)} {n d : Nat}
    (h : ClkAnswers s q qs n) (hd : s.cfg.divider q = some d) :
    exec .reset s = .next { s with
      refRate := q, clkAnswers := qs, drawn := n, mdioSeq := .reset (.assert d)
      history := s.history ++ [.req .reset, .clkQuery q] } := by
  rw [exec_reset_query hidle h]
  simp [State.resetWithClock, hd, State.goTo]

theorem exec_reset_noClock (hidle : s.mdioSeq = .idle) {q : Option Nat} {qs : List (Option Nat)} {n : Nat}
    (h : ClkAnswers s q qs n) (hd : s.cfg.divider q = none) :
    exec .reset s = .next { s with
      refRate := q, clkAnswers := qs, drawn := n
      history := s.history ++ [.req .reset, .clkQuery q, .resp (some .mdc) (.error .hardwareFault)] } := by
  rw [exec_reset_query hidle h]
  simp [State.resetWithClock, hd, State.answerMdc, State.record, ← hidle]

/-- Settles O20: the search finds nothing. -/
theorem resetWithoutClock : Obligations.ResetWithoutClock := by
  intro s q qs hidle hclk hq
  exact exec_reset_noClock hidle (.inl ⟨hclk, rfl⟩) (Config.divider_none hq)

theorem mdcNext_reset {pos : ResetPos} (hs : s.mdioSeq = .reset pos) : s.mdcNext = s.resetNext pos := by
  rw [State.mdcNext, hs]

theorem mdcNext_reset_assert {d : Nat} (hc : s.cfg.Valid) (hs : s.mdioSeq = .reset (.assert d)) :
    s.mdcNext = { s with
      cfgReg := BitVec.ofNat 32 d ||| s.cfg.resetBit
      cmd := if s.level = .openLine then s.cmd else s.cfg.cmdWrite
      pending := if s.level = .openLine then s.pending else none
      ind := if s.level = .openLine then s.ind else s.ind &&& ~~~s.cfg.indBusy
      mdioSeq := .reset (.settleAsserted d)
      history := s.history ++ [.st .mdiowin s.cfg.cfgOff (BitVec.ofNat 32 d ||| s.cfg.resetBit),
        .ld .mdiowin s.cfg.cfgOff (BitVec.ofNat 32 d ||| s.cfg.resetBit)] } := by
  rw [mdcNext_reset hs, State.resetNext, State.wrote_cfgAssert (hc.resetBit_or _)]
  rfl

theorem mdcNext_reset_settleAsserted {d : Nat} (hs : s.mdioSeq = .reset (.settleAsserted d)) :
    s.mdcNext = { s with
      mdioSeq := .reset (.release d), history := s.history ++ [.delay s.cfg.resetSettleUs] } :=
  mdcNext_reset hs

theorem mdcNext_reset_release {d : Nat} (hc : s.cfg.Valid) (hd : d ∈ s.cfg.dividerTable)
    (hs : s.mdioSeq = .reset (.release d)) :
    s.mdcNext = { s with
      cfgReg := BitVec.ofNat 32 d, mdioSeq := .reset .settleReleased
      history := s.history ++ [.st .mdiowin s.cfg.cfgOff (BitVec.ofNat 32 d),
        .ld .mdiowin s.cfg.cfgOff (BitVec.ofNat 32 d)] } := by
  rw [mdcNext_reset hs, State.resetNext, State.wrote_cfgRelease (hc.divider_and_resetBit hd)]
  rfl

theorem mdcNext_reset_settleReleased (hs : s.mdioSeq = .reset .settleReleased) :
    s.mdcNext = { s with
      resetDone := true, mdioSeq := .idle
      history := s.history ++ [.delay s.cfg.resetSettleUs, .resp (some .mdc) .ok] } := by
  rw [mdcNext_reset hs]
  simp [State.resetNext, State.delay, State.record, State.markReset, State.answerMdc]

/-- Settles O21: the query, and the four micro-steps after it. -/
theorem resetMicroSteps : Obligations.ResetMicroSteps := by
  intro s d hc hd
  have hopen : ∀ {pos}, s.mdioSeq = .reset pos → exec .reset s = .next s.mdcNext := fun hs =>
    exec_open hc (congrArg MdioSeq.instr hs)
  refine ⟨fun q qs hidle hclk hq => exec_reset_clock hidle (.inl ⟨hclk, rfl⟩) hq, fun hidle hclk => ?_,
    fun hs => ?_, fun hs => ?_, fun hs => ?_, fun hs => ?_⟩
  · have hanswer : ClkAnswers s (Config.freeClk s.drawn) [] (s.drawn + 1) := .inr ⟨hclk, rfl, rfl, rfl⟩
    cases hq : s.cfg.divider (Config.freeClk s.drawn) with
    | none =>
      rw [exec_reset_noClock hidle hanswer hq]
      simp [hq, ← hidle, ← hclk]
    | some e =>
      rw [exec_reset_clock hidle hanswer hq]
      simp [hq, ← hclk]
  · rw [hopen hs, mdcNext_reset_assert hc hs]
  · rw [hopen hs, mdcNext_reset_settleAsserted hs]
  · rw [hopen hs, mdcNext_reset_release hc hd hs]
  · rw [hopen hs, mdcNext_reset_settleReleased hs]

/-! ## A whole `reset` -/

/-- LINE's opportunity is nothing at all but in `LINE` with a cycle in flight (R191, R195, R200). -/
theorem lineTurn_eq_self (h : s.level ≠ .wellBehaved ∨ s.pending = none) : s.lineTurn = s := by
  unfold State.lineTurn
  split
  · rfl
  · rfl
  · rename_i hlevel
    simp only [h.resolve_left (not_not.mpr hlevel)]

/-- A run from an open operation while LINE has nothing to do begins with the next micro-step. -/
theorem runSteps_quiet {i : Instr} {t : State} (ht : s.mdcNext = t) (hi : s.mdioSeq.instr = some i)
    (hc : s.cfg.Valid) (hserial : s.SerialHost) (hquiet : s.level ≠ .wellBehaved ∨ s.pending = none) {k : Nat} :
    runSteps (k + 1) s = runSteps k t := by
  rw [runSteps, step_open hc hserial hi, lineTurn_eq_self hquiet, ht]

/-- From the first settle delay a `reset` needs three steps (R154). -/
theorem runSteps_reset_settleAsserted {d : Nat} (hc : s.cfg.Valid) (hserial : s.SerialHost)
    (hd : d ∈ s.cfg.dividerTable) (hs : s.mdioSeq = .reset (.settleAsserted d))
    (hquiet : s.level ≠ .wellBehaved ∨ s.pending = none) :
    runSteps 3 s = .next { s with
      cfgReg := BitVec.ofNat 32 d
      resetDone := true
      mdioSeq := .idle
      history := s.history ++ [.delay s.cfg.resetSettleUs,
        .st .mdiowin s.cfg.cfgOff (BitVec.ofNat 32 d), .ld .mdiowin s.cfg.cfgOff (BitVec.ofNat 32 d),
        .delay s.cfg.resetSettleUs, .resp (some .mdc) .ok] } := by
  have hsettle := mdcNext_reset_settleAsserted hs
  have hrelease es := mdcNext_reset_release (s := { s with mdioSeq := .reset (.release d), history := es }) hc hd rfl
  have hend es := mdcNext_reset_settleReleased (s := { s with
    cfgReg := BitVec.ofNat 32 d, mdioSeq := .reset .settleReleased, history := es }) rfl
  rw [runSteps_quiet hsettle (congrArg _ hs) hc hserial hquiet,
    runSteps_quiet (hrelease _) (i := .reset) rfl hc hserial hquiet,
    runSteps_quiet (hend _) (i := .reset) rfl hc hserial hquiet]
  simp [runSteps]

/-- After the store with `RESET_BIT` LINE has nothing to do: on the levels that have a line no cycle is in flight
(R196). -/
theorem quiet_after_assert (s : State) :
    s.level ≠ .wellBehaved ∨ (if s.level = .openLine then s.pending else none) = none := by
  by_cases h : s.level = .openLine
  · exact .inl (by rw [h]; nofun)
  · exact .inr (if_neg h)

/-- From the store with `RESET_BIT` a `reset` needs four steps, before the first of which LINE may act (R154, R195). -/
theorem runSteps_reset_assert {d : Nat} (hc : s.cfg.Valid) (hserial : s.SerialHost) (hd : d ∈ s.cfg.dividerTable)
    (hs : s.mdioSeq = .reset (.assert d)) :
    runSteps 4 s = .next { s.lineTurn with
      cfgReg := BitVec.ofNat 32 d
      cmd := if s.level = .openLine then s.cmd else s.cfg.cmdWrite
      pending := if s.level = .openLine then s.lineTurn.pending else none
      ind := if s.level = .openLine then s.lineTurn.ind else s.lineTurn.ind &&& ~~~s.cfg.indBusy
      resetDone := true
      mdioSeq := .idle
      history := s.history ++ [.st .mdiowin s.cfg.cfgOff (BitVec.ofNat 32 d ||| s.cfg.resetBit),
        .ld .mdiowin s.cfg.cfgOff (BitVec.ofNat 32 d ||| s.cfg.resetBit), .delay s.cfg.resetSettleUs,
        .st .mdiowin s.cfg.cfgOff (BitVec.ofNat 32 d), .ld .mdiowin s.cfg.cfgOff (BitVec.ofNat 32 d),
        .delay s.cfg.resetSettleUs, .resp (some .mdc) .ok] } := by
  have hc' : s.lineTurn.cfg.Valid := by simpa using hc
  have hd' : d ∈ s.lineTurn.cfg.dividerTable := by simpa using hd
  rw [runSteps, step_open hc hserial (congrArg _ hs), mdcNext_reset_assert hc' (by simpa using hs)]
  refine Eq.trans (runSteps_reset_settleAsserted hc' (State.lineTurn_serialHost hserial) hd' rfl
    (quiet_after_assert s.lineTurn)) ?_
  simp

/-- Settles O22: the query, then the four steps from the store with `RESET_BIT`. -/
theorem resetRunsToItsEnd : Obligations.ResetRunsToItsEnd := by
  intro s hz qs hc hidle hne hr hclk
  have hserial : s.SerialHost := by simp [State.SerialHost, hr, programRequests]
  obtain ⟨d, hd⟩ : ∃ d, s.cfg.divider (some hz) = some d := ⟨_, Config.divider_some hne⟩
  have hmem := hc.divider_mem hd
  have hstart := exec_reset_clock (s := s.takeRequest []) (q := some hz) (by simpa using hidle)
    (.inl ⟨s.lineTurn_clkAnswers.trans hclk, rfl⟩) (by simpa using hd)
  have hstep := (step_request hc hserial hidle hr (by decide)).trans hstart
  have hrun := runSteps_reset_assert (s := { s.takeRequest [] with
    refRate := some hz, clkAnswers := qs, mdioSeq := .reset (.assert d)
    history := (s.takeRequest []).history ++ [.req .reset, .clkQuery (some hz)] }) (by simpa using hc)
    (List.forall_mem_nil _) (by simpa using hmem) rfl
  refine ⟨_, d, by rw [runSteps, hstep]; exact hrun, hmem, hd, rfl, hc.divider_and_resetBit hmem, by simp, rfl, rfl,
    by simp, by simp [State.takeRequest], by simp [State.takeRequest], by simp [State.takeRequest],
    by simp [State.takeRequest], by simp [State.takeRequest], by simp, fun hlevel => ?_, fun hlevel => ?_⟩
  · have hlevel' : (s.takeRequest []).level ≠ .openLine := by simpa [State.takeRequest] using hlevel
    simp [hlevel', State.InvNotBusy, State.InvCmdIdle, Config.busyIn_clear]
  · simp [hlevel, State.takeRequest]

end Sys2Proof
end

section
/-! SUPPORT. The line side, case by case (42_mdio_device_side.md R191 to R200, R243): what it draws, what a load of
`IND` or `STATUS` shows on each level, what a completion and a trigger do. -/

namespace Sys2Proof.Machine

variable {s : State}

/-! ## Free choices -/

/-- The next word chosen under no law is `x`; `ds` and `n` are what is left of the list and the counter (R198). -/
def State.NextWord (s : State) (x : Word) (ds : List Word) (n : Nat) : Prop :=
  s.draws = x :: ds ∧ n = s.drawn ∨ s.draws = [] ∧ x = Config.freeWord s.drawn ∧ ds = [] ∧ n = s.drawn + 1

theorem State.exists_nextWord (s : State) : ∃ x ds n, s.NextWord x ds n := by
  cases hd : s.draws with
  | nil => exact ⟨_, _, _, .inr ⟨hd, rfl, rfl, rfl⟩⟩
  | cons x ds => exact ⟨x, ds, _, .inl ⟨hd, rfl⟩⟩

theorem State.NextWord.drawWord_eq {x : Word} {ds : List Word} {n : Nat} (h : s.NextWord x ds n) :
    s.drawWord = (x, { s with draws := ds, drawn := n }) := by
  obtain ⟨hd, rfl⟩ | ⟨hd, rfl, rfl, rfl⟩ := h
  · simp [State.drawWord, hd]
  · simp [State.drawWord, hd]

/-- The next choice of LINE is `b`; `ts` and `n` are what is left of the list and the counter (R195, R243). -/
def State.NextTurn (s : State) (b : Bool) (ts : List Bool) (n : Nat) : Prop :=
  s.turns = b :: ts ∧ n = s.drawn ∨ s.turns = [] ∧ b = Config.freeTurn s.drawn ∧ ts = [] ∧ n = s.drawn + 1

theorem State.NextTurn.drawTurn_eq {b : Bool} {ts : List Bool} {n : Nat} (h : s.NextTurn b ts n) :
    s.drawTurn = (b, { s with turns := ts, drawn := n }) := by
  obtain ⟨hd, rfl⟩ | ⟨hd, rfl, rfl, rfl⟩ := h
  · simp [State.drawTurn, hd]
  · simp [State.drawTurn, hd]

/-! ## Completions -/

theorem State.completeCycle_rd {a r : Octet} (h : s.pending = some (.rd a r)) :
    s.completeCycle = { s with
      pending := none, ind := s.ind &&& ~~~s.cfg.indBusy
      status := (s.status &&& 0xFFFF0000#32) ||| zextWord (s.phy.read (cellNumber a r)) } := by
  simp [State.completeCycle, h, State.clearCycle]

theorem State.completeCycle_wr {a r : Octet} {v : Half} (h : s.pending = some (.wr a r v)) :
    s.completeCycle = { s with
      pending := none, ind := s.ind &&& ~~~s.cfg.indBusy, phy := s.phy.write (cellNumber a r) v } := by
  simp [State.completeCycle, h, State.clearCycle]

@[simp] theorem State.completeCycle_pending (s : State) : s.completeCycle.pending = none := by
  unfold State.completeCycle
  split
  · assumption
  · rfl
  · rfl

/-- A completion changes no cell but that of the write cycle in flight (R195). -/
theorem State.completeCycle_cells {n : Nat} (h : s.cellInFlight ≠ some n) :
    s.completeCycle.phy.read n = s.phy.read n := by
  cases hp : s.pending with
  | none => simp [State.completeCycle, hp]
  | some c =>
    cases c with
    | rd a r => rw [State.completeCycle_rd hp]
    | wr a r v =>
      have hn : n ≠ cellNumber a r := fun h' => h (by simp [State.cellInFlight, hp, h'])
      rw [State.completeCycle_wr hp, Memory.read_write_other hn]

/-- SimPHY's count at an Indicator load counts, or completes the cycle in flight (R200). -/
theorem State.simPoll_cases (s : State) :
    (∃ k, s.simPoll = { s with countdown := k }) ∨ s.pending ≠ none ∧ s.simPoll = s.completeCycle := by
  unfold State.simPoll
  split
  · exact .inl ⟨_, rfl⟩
  · rename_i c hp
    split
    · exact .inr ⟨by simp [hp], rfl⟩
    · exact .inl ⟨_, rfl⟩

theorem State.indTick_cases (s : State) :
    (∃ k, s.indTick = { s with countdown := k }) ∨ s.pending ≠ none ∧ s.indTick = s.completeCycle := by
  unfold State.indTick
  split
  · exact .inl ⟨_, rfl⟩
  · exact .inl ⟨_, rfl⟩
  · exact .inl ⟨_, rfl⟩
  · exact s.simPoll_cases

/-! ## Loads -/

theorem State.lineLoad_status_openLine {x : Word} {ds : List Word} {n : Nat} (hl : s.level = .openLine)
    (h : s.NextWord x ds n) : s.lineLoad .status = (x, { s with status := x, draws := ds, drawn := n }) := by
  rw [State.lineLoad_driven (State.beforeReset_openLine hl)]
  simp [State.lineDrive, State.driveStatus, hl, State.readReg, h.drawWord_eq]

theorem State.lineLoad_ind_openLine {x : Word} {ds : List Word} {n : Nat} (hl : s.level = .openLine)
    (h : s.NextWord x ds n) : s.lineLoad .ind = (x, { s with ind := x, draws := ds, drawn := n }) := by
  rw [State.lineLoad_driven (State.beforeReset_openLine hl)]
  simp [State.lineDrive, State.driveInd, hl, State.readReg, h.drawWord_eq]

/-- The word of a Status load in `LINE`, `x` being the line's choice (R198). -/
def State.lineStatus (s : State) (x : Word) : Word := (x &&& 0xFFFF0000#32) ||| (s.status &&& 0x0000FFFF#32)

/-- The word of an Indicator load in `LINE`, `x` being the line's choice (R198). -/
def State.lineInd (s : State) (x : Word) : Word := (x &&& ~~~s.cfg.indBusy) ||| (s.ind &&& s.cfg.indBusy)

theorem State.lineLoad_status_line {x : Word} {ds : List Word} {n : Nat} (hb : s.beforeReset = false)
    (hl : s.level = .wellBehaved) (h : s.NextWord x ds n) :
    s.lineLoad .status = (s.lineStatus x, { s with status := s.lineStatus x, draws := ds, drawn := n }) := by
  rw [State.lineLoad_driven hb]
  simp [State.lineDrive, State.driveStatus, hl, State.readReg, h.drawWord_eq, State.lineStatus]

theorem State.lineLoad_ind_line {x : Word} {ds : List Word} {n : Nat} (hb : s.beforeReset = false)
    (hl : s.level = .wellBehaved) (h : s.NextWord x ds n) :
    s.lineLoad .ind = (s.lineInd x, { s with ind := s.lineInd x, draws := ds, drawn := n }) := by
  rw [State.lineLoad_driven hb]
  simp [State.lineDrive, State.driveInd, hl, State.readReg, h.drawWord_eq, State.lineInd]

theorem State.lineLoad_status_simPhy {l : Option Nat} (hb : s.beforeReset = false) (hl : s.level = .simPhy l) :
    s.lineLoad .status = (s.status &&& 0x0000FFFF#32, { s with status := s.status &&& 0x0000FFFF#32 }) := by
  rw [State.lineLoad_driven hb]
  simp [State.lineDrive, State.driveStatus, hl, State.readReg]

theorem State.lineLoad_ind_simPhy {l : Option Nat} (hb : s.beforeReset = false) (hl : s.level = .simPhy l) :
    s.lineLoad .ind = (s.indTick.ind &&& s.cfg.indBusy, { s.indTick with ind := s.indTick.ind &&& s.cfg.indBusy }) := by
  rw [State.lineLoad_driven hb]
  cases l <;> simp [State.lineDrive, State.driveInd, hl, State.readReg, State.indTick]

/-- What a load of `STATUS` can change: `STATUS`, which then holds the word loaded, and what the line has drawn; before
the first successful `reset` not even `STATUS` (R198, R243). -/
theorem State.lineLoad_status_frame (s : State) :
    (s.lineLoad .status).2 = { s with
      status := if s.beforeReset then s.status else (s.lineLoad .status).1
      draws := (s.lineLoad .status).2.draws, drawn := (s.lineLoad .status).2.drawn } := by
  obtain ⟨x, ds, n, h⟩ := s.exists_nextWord
  cases hb : s.beforeReset with
  | true => rw [State.lineLoad_status_before hb, h.drawWord_eq]; rfl
  | false =>
    cases hl : s.level with
    | openLine => rw [State.lineLoad_status_openLine hl h]; simp [hl]
    | wellBehaved => rw [State.lineLoad_status_line hb hl h]; simp [hl]
    | simPhy l => rw [State.lineLoad_status_simPhy hb hl]; simp [hl]

theorem State.completeCycle_frame (s : State) :
    s.completeCycle = { s with
      ind := s.completeCycle.ind, status := s.completeCycle.status, pending := s.completeCycle.pending
      phy := s.completeCycle.phy } := by
  unfold State.completeCycle
  split <;> rfl

theorem State.indTick_frame (s : State) :
    s.indTick = { s with
      ind := s.indTick.ind, status := s.indTick.status, pending := s.indTick.pending, phy := s.indTick.phy
      countdown := s.indTick.countdown } := by
  obtain ⟨k, h⟩ | ⟨-, h⟩ := s.indTick_cases
  · rw [h]
  · rw [h, s.completeCycle_countdown]
    exact s.completeCycle_frame

/-- What a load of `IND` can change: the line's own state (R198, R200). -/
theorem State.lineLoad_ind_frame (s : State) :
    (s.lineLoad .ind).2 = { s with
      ind := (s.lineLoad .ind).2.ind, status := (s.lineLoad .ind).2.status
      pending := (s.lineLoad .ind).2.pending, phy := (s.lineLoad .ind).2.phy
      countdown := (s.lineLoad .ind).2.countdown, draws := (s.lineLoad .ind).2.draws
      drawn := (s.lineLoad .ind).2.drawn } := by
  cases hb : s.beforeReset with
  | true =>
    obtain ⟨x, ds, n, h⟩ := s.indTick.exists_nextWord
    rw [State.lineLoad_ind_before hb, h.drawWord_eq, s.indTick_frame]
  | false =>
    rw [State.lineLoad_driven hb]
    exact s.driveInd_frame

/-- A load of `IND` changes no cell but that of the write cycle in flight (R195, R200). -/
theorem State.lineLoad_ind_cells {n : Nat} (h : s.cellInFlight ≠ some n) :
    (s.lineLoad .ind).2.phy.read n = s.phy.read n := by
  have htick : s.indTick.phy.read n = s.phy.read n := by
    obtain ⟨k, hk⟩ | ⟨-, hk⟩ := s.indTick_cases
    · rw [hk]
    · rw [hk, State.completeCycle_cells h]
  cases hb : s.beforeReset with
  | true =>
    obtain ⟨x, ds, m, hx⟩ := s.indTick.exists_nextWord
    rw [State.lineLoad_ind_before hb, hx.drawWord_eq]
    exact htick
  | false =>
    obtain ⟨x, ds, m, hx⟩ := s.exists_nextWord
    cases hl : s.level with
    | openLine => rw [State.lineLoad_ind_openLine hl hx]
    | wellBehaved => rw [State.lineLoad_ind_line hb hl hx]
    | simPhy l =>
      rw [State.lineLoad_ind_simPhy hb hl]
      exact htick

/-! ## Stores and triggers -/

theorem State.startCycle_eq (s : State) (c : Cycle) : s.startCycle c = s.withCycle c := by
  unfold State.startCycle State.withCycle
  cases hl : s.level with
  | simPhy l => cases l <;> rfl
  | _ => rfl

theorem State.trigger_taken (hb : s.beforeReset = false) (c : Cycle) : s.trigger c = s.withCycle c := by
  rw [State.trigger_eq hb, State.startCycle_eq]

/-- Before the first successful `reset` the line chooses whether it takes a trigger (R243). -/
theorem State.trigger_chosen (hb : s.beforeReset = true) {b : Bool} {ts : List Bool} {n : Nat} (h : s.NextTurn b ts n)
    (c : Cycle) : s.trigger c = { (if b then s.withCycle c else s) with turns := ts, drawn := n } := by
  rw [State.trigger, if_pos hb, h.drawTurn_eq]
  cases b with
  | false => rfl
  | true => exact State.startCycle_eq _ c

/-- A store of the command value that starts nothing: the latch alone changes (R197). -/
theorem State.lineCmdStore_write (hc : s.cfg.Valid) : s.lineCmdStore s.cfg.cmdWrite = s := by
  simp [State.lineCmdStore, hc.commands_ne]

theorem State.lineStore_cmdReg (hl : s.level ≠ .openLine) (v : Word) : s.lineStore .cmd v = s.lineCmdStore v := by
  unfold State.lineStore
  split
  · contradiction
  · rfl
  · rfl

theorem State.lineStore_ctrlReg (hl : s.level ≠ .openLine) (v : Word) : s.lineStore .ctrl v = s.lineCtrlStore v := by
  unfold State.lineStore
  split
  · contradiction
  · rfl
  · rfl

theorem State.storeReg_cmd (hl : s.level ≠ .openLine) (v : Word) :
    s.storeReg .cmd v = { s.lineCmdStore v with cmd := v } := by
  rw [State.storeReg, State.lineStore_cmdReg hl]
  rfl

theorem State.storeReg_ctrl (hl : s.level ≠ .openLine) (v : Word) :
    s.storeReg .ctrl v = { s.lineCtrlStore v with ctrl := v } := by
  rw [State.storeReg, State.lineStore_ctrlReg hl]
  rfl

theorem State.storeReg_openLine (hl : s.level = .openLine) (r : Reg) (v : Word) : s.storeReg r v = s.setReg r v := by
  simp [State.storeReg, State.lineStore, hl]

/-- A store and its read-back, written as the store and the two events (R64). -/
theorem State.wrote_eq (s : State) (r : Reg) (win : Window) (off : Nat) (v : Word) :
    s.wrote r win off v = { s.storeReg r v with history := s.history ++ [.st win off v, .ld win off v] } := by
  simp [State.wrote, State.record, State.storeReg]

theorem phyOfAddr_eq (w : Word) : phyOfAddr w = (w >>> 8).setWidth 8 := by
  ext i hi
  simp [phyOfAddr]

theorem regOfAddr_eq (w : Word) : regOfAddr w = w.setWidth 8 := by
  ext i hi
  simp [regOfAddr]

theorem dataField_eq (w : Word) : dataField w = w.setWidth 16 := by
  ext i hi
  simp [dataField]

end Sys2Proof.Machine
end

section
/-! SUPPORT. The statements about the line side (20_memory.md R64; 42_mdio_device_side.md R191 to R200). -/

namespace Sys2Proof

open Machine

variable {s : State}

/-- A store that succeeds is one to a writable register (R32, R33, R64). -/
theorem regWrite_ok {t : State} {win : Window} {off : Nat} {v : Word} (h : s.regWrite win off v = .ok t) :
    ∃ r, s.cfg.regAt win off = some r ∧ r ≠ .status ∧ r ≠ .ind ∧ t = s.wrote r win off v := by
  cases hr : s.cfg.regAt win off with
  | none => simp [State.regWrite, hr] at h
  | some r =>
    have h1 : r ≠ .status := by rintro rfl; simp [State.regWrite, hr] at h
    have h2 : r ≠ .ind := by rintro rfl; simp [State.regWrite, hr] at h
    rw [State.regWrite_eq v hr h1 h2] at h
    exact ⟨r, rfl, h1, h2, (Except.ok.inj h).symm⟩

/-- Settles O38: the load of a writable register changes nothing. -/
theorem storesAreReadBack : Obligations.StoresAreReadBack := by
  intro s t win off v h
  obtain ⟨r, hr, -, -, rfl⟩ := regWrite_ok h
  exact ⟨r, v, hr, by simp [State.wrote, State.storeReg], s.wrote_eq r win off v⟩

/-- A store of `CMD_READ` over WRITE-mode on an idle line is a trigger (R193). -/
theorem storeReg_cmdRead (hl : s.level ≠ .openLine) (hp : s.pending = none) (hcmd : s.cmd = s.cfg.cmdWrite) :
    s.storeReg .cmd s.cfg.cmdRead =
      { s.trigger (.rd ((s.addr >>> 8).setWidth 8) (s.addr.setWidth 8)) with cmd := s.cfg.cmdRead } := by
  rw [State.storeReg_cmd hl, ← phyOfAddr_eq, ← regOfAddr_eq]
  simp only [State.lineCmdStore, hp, if_pos hcmd, if_true]

/-- Over another latch word it starts nothing (R193). -/
theorem storeReg_cmdRead_over (hl : s.level ≠ .openLine) (hp : s.pending = none) (hcmd : s.cmd ≠ s.cfg.cmdWrite) :
    s.storeReg .cmd s.cfg.cmdRead = { s with cmd := s.cfg.cmdRead } := by
  rw [State.storeReg_cmd hl]
  simp only [State.lineCmdStore, hp, if_neg hcmd, if_true]

/-- With a cycle in flight it has no behaviour (R199). -/
theorem storeReg_cmdRead_busy (hl : s.level ≠ .openLine) (hp : s.pending ≠ none) :
    s.storeReg .cmd s.cfg.cmdRead = { s with cmd := s.cfg.cmdRead, lineFault := true } := by
  rw [State.storeReg_cmd hl, State.lineCmdStore, if_pos rfl]
  split
  · rfl
  · contradiction

/-- A store to `CTRL` in WRITE-mode on an idle line is a trigger (R194). -/
theorem storeReg_ctrl_trigger (hl : s.level ≠ .openLine) (hp : s.pending = none) (hcmd : s.cmd = s.cfg.cmdWrite)
    (v : Word) :
    s.storeReg .ctrl v =
      { s.trigger (.wr ((s.addr >>> 8).setWidth 8) (s.addr.setWidth 8) (dataField v)) with ctrl := v } := by
  rw [State.storeReg_ctrl hl, ← phyOfAddr_eq, ← regOfAddr_eq]
  simp only [State.lineCtrlStore, hp, if_pos hcmd]

/-- With a cycle in flight, or in READ-mode, it has no behaviour (R199). -/
theorem storeReg_ctrl_fault (hc : s.cfg.Valid) (hl : s.level ≠ .openLine)
    (h : s.pending ≠ none ∨ s.cmd = s.cfg.cmdRead) (v : Word) :
    s.storeReg .ctrl v = { s with ctrl := v, lineFault := true } := by
  rw [State.storeReg_ctrl hl, State.lineCtrlStore]
  split
  · rfl
  · rename_i hp
    have hcmd := h.resolve_left (not_not.mpr hp)
    rw [if_neg fun hw => hc.commands_ne (hw.symm.trans hcmd), if_pos hcmd]
    rfl

/-- Over a latch word that is neither command it starts nothing (R194, R199). -/
theorem storeReg_ctrl_over (hl : s.level ≠ .openLine) (hp : s.pending = none) (hw : s.cmd ≠ s.cfg.cmdWrite)
    (hr : s.cmd ≠ s.cfg.cmdRead) (v : Word) : s.storeReg .ctrl v = { s with ctrl := v } := by
  rw [State.storeReg_ctrl hl]
  simp only [State.lineCtrlStore, hp, if_neg hw, if_neg hr]

/-- Settles O40: a trigger that is taken, one that is chosen, and the two stores that start nothing. -/
theorem commandStores : Obligations.CommandStores := by
  intro s hc hl
  refine ⟨fun hcmd hp => ⟨fun hb => ?_, fun hb b ts n hn => ?_⟩, fun hcmd hp => ?_, ?_⟩
  · rw [storeReg_cmdRead hl hp hcmd, State.trigger_taken hb]
  · rw [storeReg_cmdRead hl hp hcmd, State.trigger_chosen hb hn]
  · rw [storeReg_cmdRead_over hl hp fun hw => hc.commands_ne (hw.symm.trans hcmd), ← hcmd]
  · rw [State.storeReg_cmd hl, State.lineCmdStore_write hc]

/-- Settles O41: each of the four stores is one the line marks. -/
theorem storesWithoutBehaviour : Obligations.StoresWithoutBehaviour := by
  intro s v hc hl
  refine ⟨storeReg_cmdRead_busy hl, fun hp => storeReg_ctrl_fault hc hl (.inl hp) v,
    fun hcmd => storeReg_ctrl_fault hc hl (.inr hcmd) v, fun hr hw => ?_⟩
  rw [State.storeReg_cmd hl, State.lineCmdStore, if_neg hr, if_neg hw]
  rfl

end Sys2Proof
end

section
/-! SUPPORT. The statements about completions and about loads of the line's two registers (20_memory.md R64, R67;
42_mdio_device_side.md R191, R195, R198, R200; 70_reset_and_hazards.md R243). -/

namespace Sys2Proof

open Machine

variable {s : State}

/-! ## Completions -/

/-- A word whose upper half is one word's and whose lower half is another's. -/
theorem halves_setWidth (x y : Word) :
    ((x &&& 0xFFFF0000#32) ||| (y &&& 0x0000FFFF#32)).setWidth 16 = y.setWidth 16 := by
  have hhigh : (0xFFFF0000#32).setWidth 16 = 0#16 := by decide
  have hlow : (0x0000FFFF#32).setWidth 16 = BitVec.allOnes 16 := by decide
  rw [BitVec.setWidth_or, BitVec.setWidth_and, BitVec.setWidth_and, hhigh, hlow, BitVec.and_zero, BitVec.zero_or,
    BitVec.and_allOnes]

theorem halves_ushiftRight (x y : Word) : ((x &&& 0xFFFF0000#32) ||| (y &&& 0x0000FFFF#32)) >>> 16 = x >>> 16 := by
  have hhigh : 0xFFFF0000#32 >>> 16 = (BitVec.allOnes 32) >>> 16 := by decide
  have hlow : 0x0000FFFF#32 >>> 16 = 0#32 := by decide
  rw [BitVec.ushiftRight_or_distrib, BitVec.ushiftRight_and_distrib, BitVec.ushiftRight_and_distrib, hhigh, hlow,
    BitVec.and_zero, BitVec.or_zero, ← BitVec.ushiftRight_and_distrib, BitVec.and_allOnes]

theorem zextWord_and (v : Half) : zextWord v &&& 0x0000FFFF#32 = zextWord v := by
  change v.setWidth 32 &&& (BitVec.allOnes 16).setWidth 32 = v.setWidth 32
  rw [← BitVec.setWidth_and, BitVec.and_allOnes]

/-- Settles O42: the two kinds of cycle, and LINE's choice, listed or free. -/
theorem completionOfACycle : Obligations.CompletionOfACycle := by
  intro s a r v
  refine ⟨fun hp => ?_, fun hp hwf => ?_, fun hl hp => ?_, lineTurn_eq_self⟩
  · rw [State.completeCycle_rd hp]
    refine ⟨rfl, ?_, ?_⟩
    · rw [← zextWord_and, halves_setWidth]
      simp [zextWord]
    · rw [← zextWord_and, halves_ushiftRight]
  · rw [State.completeCycle_wr hp]
    exact ⟨rfl, Memory.read_write_self hwf v, fun n hn => Memory.read_write_other hn _ _⟩
  · obtain ⟨c, hp⟩ := Option.ne_none_iff_exists'.mp hp
    have hturn : s.lineTurn = if s.drawTurn.1 then s.drawTurn.2.completeCycle else s.drawTurn.2 := by
      simp only [State.lineTurn, hl, hp]
    refine ⟨fun ts hts => ?_, fun ts hts => ?_, fun hts => ?_⟩
    · simp [hturn, State.drawTurn, hts]
    · simp [hturn, State.drawTurn, hts]
    · simp only [hturn, State.drawTurn, hts]
      split
      · exact .inl rfl
      · exact .inr rfl

/-! ## Loads -/

/-- A load of a register is the line's answer to it and the event (R64). -/
theorem regRead_of_lineLoad {win : Window} {off : Nat} {r : Reg} (hr : s.cfg.regAt win off = some r) {w : Word}
    {u : State} (hload : s.lineLoad r = (w, u)) :
    s.regRead win off = .ok (w, { u with history := s.history ++ [.ld win off w] }) := by
  have hhistory : u.history = s.history := by simpa [hload] using s.lineLoad_history r
  simp only [State.regRead_eq hr, State.loaded, State.loadReg, hload, State.record, hhistory]

/-- What SimPHY's count at an Indicator load comes to (R200). -/
theorem indTick_simPhy {l : Option Nat} (hl : s.level = .simPhy l) :
    s.indTick =
      if s.pending = none then s
      else if l = none then s
      else if s.countdown = 0 then s.completeCycle
      else { s with countdown := s.countdown - 1 } := by
  cases l with
  | none => simp [State.indTick, hl]
  | some l => cases hp : s.pending <;> simp [State.indTick, hl, State.simPoll, hp]

/-- Settles O43: the load shows the busy bit that SimPHY's count leaves. -/
theorem simPhyIndicatorLoads : Obligations.SimPhyIndicatorLoads := by
  intro s l hc hl hfollows hb
  have hbusy : s.cfg.busyIn s.ind = true ↔ s.pending ≠ none := hfollows.resolve_left (by rw [hl]; nofun)
  have htick := indTick_simPhy hl
  refine ⟨_, _, regRead_of_lineLoad hc.regAt_ind (State.lineLoad_ind_simPhy hb hl), rfl, ?_, fun hp => ?_,
    fun hp hk => ?_, fun hp hn hk => ?_⟩
  · simp [BitVec.and_assoc]
  · rw [if_pos hp] at htick
    rw [htick, Config.busyIn_and]
    exact ⟨Bool.eq_false_iff.mpr fun h => hbusy.mp h hp, rfl⟩
  · have hcount : s.indTick = { s with countdown := if l = none then s.countdown else s.countdown - 1 } := by
      rw [htick, if_neg hp]
      split
      · rfl
      · rename_i hn
        rw [if_neg (by have := hk.resolve_left hn; omega)]
    rw [hcount, Config.busyIn_and]
    exact ⟨hbusy.mpr hp, rfl⟩
  · rw [if_neg hp, if_neg hn, if_pos hk] at htick
    obtain ⟨c, hc⟩ := Option.ne_none_iff_exists'.mp hp
    rw [htick, Config.busyIn_and, State.completeCycle_notBusy hc]
    exact ⟨rfl, rfl⟩

theorem driveInd_simPhy {l : Nat} (hl : s.level = .simPhy (some l)) :
    s.driveInd = { s.simPoll with ind := s.simPoll.ind &&& s.cfg.indBusy } := by
  simp only [State.driveInd, hl]

/-- Under SimPHY(L) the countdown is the number of busy loads still to come (R200). -/
theorem driveInd_iterate {c : Cycle} {l : Nat} (hl : s.level = .simPhy (some l)) (hp : s.pending = some c)
    (hbusy : s.cfg.busyIn s.ind = true) (k : Nat) :
    (k < s.countdown → s.cfg.busyIn (State.driveInd^[k + 1] s).ind = true) ∧
      s.cfg.busyIn (State.driveInd^[s.countdown + 1] s).ind = false := by
  have hdrive := driveInd_simPhy hl
  induction hm : s.countdown generalizing s k with
  | zero =>
    rw [State.simPoll_done hp hm] at hdrive
    refine ⟨nofun, ?_⟩
    rw [Function.iterate_one, hdrive, Config.busyIn_and, State.completeCycle_notBusy hp]
  | succ m ih =>
    rw [State.simPoll_counting hp hm] at hdrive
    have hbusy' : s.cfg.busyIn s.driveInd.ind = true := by
      rw [hdrive]
      exact (s.cfg.busyIn_and _).trans hbusy
    have hl' : s.driveInd.level = .simPhy (some l) := s.driveInd_level.trans hl
    have hnext (j : Nat) := ih hl' (by rw [hdrive]; exact hp) (by rwa [s.driveInd_cfg]) j (driveInd_simPhy hl')
      (by rw [hdrive])
    rw [s.driveInd_cfg] at hnext
    refine ⟨fun hk => ?_, (hnext 0).2⟩
    cases k with
    | zero => exact hbusy'
    | succ k => exact (hnext k).1 (by omega)

/-- Settles O44: a trigger sets the busy bit and the countdown to L. -/
theorem simPhyLatency : Obligations.SimPhyLatency := by
  intro s c l k hc hl
  have hcount : (s.withCycle c).countdown = l := by simp [State.withCycle, hl]
  have := driveInd_iterate (s := s.withCycle c) hl rfl (hc.busyIn_set s.ind) k
  rwa [hcount] at this

/-- Settles O46: the line's own bits as they are, the rest the line's choice, or 0. -/
theorem lineLoads : Obligations.LineLoads := by
  intro s hc hb
  refine ⟨fun hl x ds n hx => ⟨?_, ?_⟩, fun l hl => ?_⟩
  · refine ⟨_, regRead_of_lineLoad hc.regAt_ind (State.lineLoad_ind_line hb hl hx), ?_, ?_, fun hfollows => ?_⟩
    · simp [State.lineInd, BitVec.and_or_distrib_right, BitVec.and_assoc]
    · simp [State.lineInd, BitVec.and_or_distrib_right, BitVec.and_assoc]
    · rw [State.lineInd, Config.busyIn_mix]
      exact hfollows.resolve_left (by rw [hl]; nofun)
  · exact ⟨_, regRead_of_lineLoad hc.regAt_status (State.lineLoad_status_line hb hl hx), halves_setWidth x s.status,
      halves_ushiftRight x s.status⟩
  · have hload := regRead_of_lineLoad hc.regAt_status (State.lineLoad_status_simPhy hb hl)
    exact ⟨_, hload, by simpa using halves_setWidth 0#32 s.status, by simpa using halves_ushiftRight 0#32 s.status⟩

/-- A free load of `IND` or `STATUS` shows the next word of the line's choice and uses it up (R191, R243). -/
theorem regRead_free {x : Word} {ds : List Word} {n : Nat} (hfree : s.level = .openLine ∨ s.beforeReset = true)
    (hx : s.NextWord x ds n) {off : Nat} {r : Reg} (hr : s.cfg.regAt .mdiowin off = some r)
    (hline : r = .ind ∨ r = .status) :
    ∃ t, s.regRead .mdiowin off = .ok (x, t) ∧ t.draws = ds ∧ t.drawn = n := by
  have hload : ∃ u, s.lineLoad r = (x, u) ∧ u.draws = ds ∧ u.drawn = n := by
    obtain hl | hb := hfree
    · obtain rfl | rfl := hline
      · exact ⟨_, State.lineLoad_ind_openLine hl hx, rfl, rfl⟩
      · exact ⟨_, State.lineLoad_status_openLine hl hx, rfl, rfl⟩
    · obtain rfl | rfl := hline
      · have htick : s.indTick.NextWord x ds n := by simpa [State.NextWord] using hx
        exact ⟨_, (State.lineLoad_ind_before hb).trans htick.drawWord_eq, rfl, rfl⟩
      · exact ⟨_, (State.lineLoad_status_before hb).trans hx.drawWord_eq, rfl, rfl⟩
  obtain ⟨u, hload, hds, hn⟩ := hload
  exact ⟨_, regRead_of_lineLoad hr hload, hds, hn⟩

theorem beforeReset_iff (s : State) : s.beforeReset = true ↔ s.level ≠ .openLine ∧ s.resetDone = false ∧
    ((∃ a r p, s.mdioSeq = .read a r p) ∨ ∃ a r v p, s.mdioSeq = .write a r v p) := by
  cases hs : s.mdioSeq <;> simp [State.beforeReset, MdioSeq.transacts, hs]

/-- Settles O47: a free load draws; a store on the open line is the stored word. -/
theorem openLineAssumesNothing : Obligations.OpenLineAssumesNothing := by
  intro s hc
  refine ⟨fun hfree => ⟨fun x xs hx => ?_, fun hx => ?_⟩, beforeReset_iff s, fun hl off v t h => ?_⟩
  · obtain ⟨t, ht, hds, -⟩ := regRead_free hfree (.inl ⟨hx, rfl⟩) hc.regAt_ind (.inl rfl)
    obtain ⟨t', ht', hds', -⟩ := regRead_free hfree (.inl ⟨hx, rfl⟩) hc.regAt_status (.inr rfl)
    exact ⟨⟨t, ht, hds⟩, t', ht', hds'⟩
  · obtain ⟨t, ht, -, hn⟩ := regRead_free hfree (.inr ⟨hx, rfl, rfl, rfl⟩) hc.regAt_ind (.inl rfl)
    obtain ⟨t', ht', -, hn'⟩ := regRead_free hfree (.inr ⟨hx, rfl, rfl, rfl⟩) hc.regAt_status (.inr rfl)
    exact ⟨⟨t, ht, hn⟩, t', ht', hn'⟩
  · obtain ⟨r, hr, -, -, rfl⟩ := regWrite_ok h
    exact ⟨r, hr, State.wrote_openLine hl r .mdiowin off v⟩

/-- What a load of `IND` changes in `LINE` and on the open line: the register, unless the word is an arbitrary one
before the first successful `reset`, and what the line has drawn (R198, R243). -/
theorem lineLoad_ind_noSimPhy (hl : ∀ l, s.level ≠ .simPhy l) :
    (s.lineLoad .ind).2 = { s with
      ind := if s.beforeReset then s.ind else (s.lineLoad .ind).1
      draws := (s.lineLoad .ind).2.draws, drawn := (s.lineLoad .ind).2.drawn } := by
  obtain ⟨x, ds, n, hx⟩ := s.exists_nextWord
  cases hlevel : s.level with
  | openLine =>
    rw [State.lineLoad_ind_openLine hlevel hx, State.beforeReset_openLine hlevel]
    simp [hlevel]
  | simPhy l => exact absurd hlevel (hl l)
  | wellBehaved =>
    cases hb : s.beforeReset with
    | true =>
      have htick : s.indTick = s := by simp [State.indTick, hlevel]
      rw [State.lineLoad_ind_before hb, htick, hx.drawWord_eq]
      simp [hlevel]
    | false =>
      rw [State.lineLoad_ind_line hb hlevel hx]
      simp [hlevel]

/-- Under SimPHY a load of `IND` that leaves the cycle in flight leaves the rest of the line, but for the register
(R200). -/
theorem lineLoad_ind_simPhy_keeps {l : Option Nat} (hl : s.level = .simPhy l)
    (hp : (s.lineLoad .ind).2.pending = s.pending) :
    (s.lineLoad .ind).2.status = s.status ∧ (s.lineLoad .ind).2.phy = s.phy ∧
      (s.beforeReset = true → (s.lineLoad .ind).2.ind = s.ind) := by
  have hload : ∃ v ds n, (s.lineLoad .ind).2 = { s.indTick with ind := v, draws := ds, drawn := n } ∧
      (s.beforeReset = true → v = s.indTick.ind) := by
    cases hb : s.beforeReset with
    | true =>
      obtain ⟨x, ds, n, hx⟩ := s.indTick.exists_nextWord
      exact ⟨s.indTick.ind, ds, n, by rw [State.lineLoad_ind_before hb, hx.drawWord_eq], fun _ => rfl⟩
    | false =>
      exact ⟨_, s.indTick.draws, s.indTick.drawn, by rw [State.lineLoad_ind_simPhy hb hl], nofun⟩
  obtain ⟨v, ds, n, hload, hv⟩ := hload
  rw [hload] at hp ⊢
  obtain ⟨k, htick⟩ | ⟨hne, htick⟩ := s.indTick_cases
  · rw [htick] at hv ⊢
    exact ⟨rfl, rfl, hv⟩
  · rw [htick] at hp
    exact absurd (hp.symm.trans s.completeCycle_pending) hne

/-- Settles O45: the load by register, and for `IND` by level. -/
theorem whatALoadChanges : Obligations.WhatALoadChanges := by
  intro s t win off v h
  obtain ⟨r, hr, rfl, -⟩ := State.regRead_ok h
  have ht : t = { (s.lineLoad r).2 with history := s.history ++ [.ld win off (s.lineLoad r).1] } := by
    rw [regRead_of_lineLoad hr rfl] at h
    cases h
    rfl
  refine ⟨r, hr, fun hb => ?_, fun hind hstatus => ?_, fun hstatus => ?_, fun hind => ⟨fun hl => ?_, fun l hl => ?_⟩⟩
  · rw [ht, State.lineLoad_driven hb]
    cases r <;> rfl
  · rw [ht, State.lineLoad_other hstatus hind]
    exact ⟨rfl, rfl⟩
  · subst hstatus
    rw [ht, s.lineLoad_status_frame]
  · subst hind
    rw [ht, lineLoad_ind_noSimPhy hl]
  · subst hind
    subst ht
    refine ⟨by rw [s.lineLoad_ind_frame], fun hb => ?_, lineLoad_ind_simPhy_keeps hl,
      fun n hn => State.lineLoad_ind_cells hn⟩
    simp [State.lineLoad_ind_simPhy hb hl]

end Sys2Proof
end

section
/-! SUPPORT. The statements about the micro-steps of `wait_not_busy`, `read` and `write` (41_mdio_controller.md R156 to
R162): each is an equation for `exec`, read off the equation of the open operation's next micro-step. -/

namespace Sys2Proof

open Machine

variable {s : State}

/-! ## Acceptance and waits -/

/-- Every MDIO operation but `compute_divider` opens at its first position. -/
theorem mdcStart_opens {i : Instr} (hi : componentOf i = .mdc) (hne : i ≠ .computeDivider) :
    (firstPos s.cfg i).instr = some i ∧ s.mdcStart i = (s.openMdc i (firstPos s.cfg i)).mdcNext := by
  cases i with
  | setInterfaceMode p m => cases hi
  | setLinkSpeed p v => cases hi
  | computeDivider => exact absurd rfl hne
  | _ => exact ⟨rfl, rfl⟩

/-- Settles O23: the request is recorded and the operation is open at its first position. -/
theorem acceptanceIsTheFirstMicroStep : Obligations.AcceptanceIsTheFirstMicroStep := by
  intro s i hc hidle hmdc hne
  obtain ⟨hfirst, hstart⟩ := mdcStart_opens (s := s) hmdc hne
  rw [exec_start hc hidle hmdc, hstart]
  exact (exec_open (s := s.openMdc i (firstPos s.cfg i)) hc hfirst).symm

/-- A load, written as the line's answer and the event (R64). -/
theorem loaded_eq (s : State) (r : Reg) (win : Window) (off : Nat) :
    s.loaded r win off = { (s.lineLoad r).2 with history := s.history ++ [.ld win off (s.lineLoad r).1] } := by
  simp [State.loaded, State.loadReg, State.record]

/-- An operation whose positions `pos` are those of a wait makes the micro-steps of a wait (R156). -/
theorem waitAnswers_of {i : Instr} {pos : WaitPos → MdioSeq} {notBusy timedOut : State → State}
    (hnext : ∀ (v : State) (p : WaitPos), v.mdioSeq = pos p → v.mdcNext = v.waitNext p pos notBusy timedOut)
    (hinstr : ∀ p, (pos p).instr = some i) : WaitAnswers i pos notBusy timedOut := by
  intro s hc
  have hexec : ∀ p, s.mdioSeq = pos p → exec i s = .next (s.waitNext p pos notBusy timedOut) := fun p hs => by
    rw [exec_open hc (hs ▸ hinstr p), hnext s p hs]
  refine ⟨fun n hs => hexec _ hs, fun hs => hexec _ hs, fun n hs => ?_⟩
  rw [hexec _ hs, State.waitNext, State.polled, loaded_eq, Config.busyIn]
  by_cases h : (s.lineLoad .ind).1 &&& s.cfg.indBusy = 0#32
  · simp [h]
  · simp [h, State.goTo]

/-- Settles O24: `wait_not_busy` is a wait. -/
theorem waitNotBusyMicroSteps : Obligations.WaitNotBusyMicroSteps :=
  waitAnswers_of (fun _ _ => State.mdcNext_waitNotBusy) fun _ => rfl

/-- Settles O29: so are steps 1 and 3 of `read`. -/
theorem readWaits : Obligations.ReadWaits := fun _ _ =>
  ⟨waitAnswers_of (fun _ _ => State.mdcNext_read) fun _ => rfl,
    waitAnswers_of (fun _ _ => State.mdcNext_read) fun _ => rfl⟩

/-- Settles O31: so is the last step of `write`. -/
theorem writeWait : Obligations.WriteWait := fun _ _ _ =>
  waitAnswers_of (fun _ _ => State.mdcNext_write) fun _ => rfl

/-- Settles O25: the accepted request polls at once, and its load is the line's own (no `read` or `write` is open). -/
theorem waitNotBusyOnAnIdleBus : Obligations.WaitNotBusyOnAnIdleBus := by
  intro s hc hidle hbudget hclear
  obtain ⟨n, hn⟩ := Nat.exists_eq_succ_of_ne_zero (Nat.ne_of_gt hbudget)
  have hload := State.lineLoad_driven (s := { s with
    mdioSeq := .waitNotBusy (.poll (n + 1)), history := s.history ++ [.req .waitNotBusy] })
    (State.beforeReset_of_transacts rfl) .ind
  rw [State.lineDrive, State.driveInd_congr] at hload
  obtain ⟨-, -, hpoll⟩ := waitNotBusyMicroSteps { s with
    mdioSeq := .waitNotBusy (.poll (n + 1)), history := s.history ++ [.req .waitNotBusy] } hc
  have hpoll := hpoll n rfl
  rw [hload] at hpoll
  rw [acceptanceIsTheFirstMicroStep s .waitNotBusy hc hidle rfl nofun, firstPos, hn, hpoll,
    if_pos (by exact hclear), s.driveInd_frame]
  simp [endsWith, State.readReg, ← hidle]

/-! ## `read` -/

/-- A micro-step of an open `read`. -/
theorem exec_read (hc : s.cfg.Valid) {a r : Half} {pos : ReadPos} (hs : s.mdioSeq = .read a r pos) :
    exec (.read a r) s = .next (s.readNext a r pos) := by
  rw [exec_open hc (congrArg MdioSeq.instr hs), State.mdcNext_read hs]

/-- A micro-step of an open `write`. -/
theorem exec_write (hc : s.cfg.Valid) {a r v : Half} {pos : WritePos} (hs : s.mdioSeq = .write a r v pos) :
    exec (.write a r v) s = .next (s.writeNext a r v pos) := by
  rw [exec_open hc (congrArg MdioSeq.instr hs), State.mdcNext_write hs]

theorem packAddr_eq (a r : Half) : packAddr a r = BitVec.ofNat 32 (a.toNat % 256 * 256 + r.toNat % 256) := by
  rw [← packAddr_toNat, BitVec.ofNat_toNat, BitVec.setWidth_eq]

theorem zextWord_eq (v : Half) : zextWord v = BitVec.ofNat 32 v.toNat := by
  simp [zextWord]

/-- Within a `read` or `write` on a level that has a line, what is free is decided by whether a `reset` has answered OK
(R243). -/
theorem beforeReset_of_line (hl : s.level ≠ .openLine) (hs : s.mdioSeq.transacts = true) :
    s.beforeReset = !s.resetDone := by
  simp [State.beforeReset, hl, hs]

/-- The word of a Status load: on the levels that have a line and after a reset its low half is the register's (R198,
R200). -/
theorem lineLoad_status_word (hl : s.level ≠ .openLine) (hb : s.beforeReset = false) :
    (s.lineLoad .status).1.setWidth 16 = s.status.setWidth 16 := by
  obtain ⟨x, ds, n, hx⟩ := s.exists_nextWord
  cases hlevel : s.level with
  | openLine => exact absurd hlevel hl
  | wellBehaved => rw [State.lineLoad_status_line hb hlevel hx]; exact halves_setWidth x s.status
  | simPhy l =>
    rw [State.lineLoad_status_simPhy hb hlevel]
    simpa using halves_setWidth 0#32 s.status

/-- It is the line's next free word on the open line, and before the first successful `reset` (R191, R243). -/
theorem lineLoad_status_free (hc : s.cfg.Valid) (hfree : s.level = .openLine ∨ s.beforeReset = true) {x : Word}
    {xs : List Word} (hx : s.draws = x :: xs) : (s.lineLoad .status).1 = x := by
  obtain ⟨t, ht, -⟩ := regRead_free hfree (.inl ⟨hx, rfl⟩) hc.regAt_status (.inr rfl)
  rw [State.regRead_eq hc.regAt_status] at ht
  exact congrArg Prod.fst (Except.ok.inj ht)

/-- The micro-step that loads `STATUS` (R158 step 4). -/
theorem exec_read_loadStatus (hc : s.cfg.Valid) {a r : Half} (hs : s.mdioSeq = .read a r .loadStatus) :
    exec (.read a r) s = .next { s with
      status := if s.beforeReset then s.status else (s.lineLoad .status).1
      draws := (s.lineLoad .status).2.draws, drawn := (s.lineLoad .status).2.drawn
      mdioSeq := .read a r (.storeBack ((s.lineLoad .status).1.setWidth 16))
      history := s.history ++ [.ld .mdiowin s.cfg.statusOff (s.lineLoad .status).1] } := by
  rw [exec_read hc hs, State.readNext, loaded_eq, s.lineLoad_status_frame, dataField_eq]
  rfl

/-- Settles O27: the stores are of words with no effect on the line, the load is the line's answer. -/
theorem readMicroSteps : Obligations.ReadMicroSteps := by
  intro s a r hc
  refine ⟨fun hs => ?_, fun hs => ?_, fun hs => ?_, fun v hs => ?_, fun hs => ?_⟩
  · rw [exec_read hc hs, State.readNext, State.wrote_cmdWrite hc]
    rfl
  · rw [exec_read hc hs, State.readNext, State.wrote_addr, packAddr_eq]
    rfl
  · have hline : s.level ≠ .openLine → s.beforeReset = !s.resetDone := fun hl =>
      beforeReset_of_line hl (by rw [hs]; rfl)
    refine ⟨_, _, _, _, exec_read_loadStatus hc hs, fun hl hd => ?_, fun hl hd => ?_, fun hl => ?_,
      fun x xs hfree hx => ?_⟩
    · have hb : s.beforeReset = false := by rw [hline hl, hd]; rfl
      exact ⟨by simp [hb], lineLoad_status_word hl hb⟩
    · simp [hline hl, hd]
    · simp [State.beforeReset_openLine hl]
    · refine lineLoad_status_free hc ?_ hx
      by_cases hl : s.level = .openLine
      · exact .inl hl
      · exact .inr (by rw [hline hl, hfree.resolve_left hl]; rfl)
  · rw [exec_read hc hs, State.readNext, State.wrote_cmdWrite hc]
    simp [State.answerMdc, State.record, maskOctet]
  · rw [exec_read hc hs, State.readNext, State.wrote_cmdWrite hc]
    simp [State.answerMdc, State.record]

/-! ## The triggers -/

/-- The micro-step that stores `CMD_READ` (R158 step 2c): the store, whatever the line makes of it. -/
theorem exec_read_storeRead (hc : s.cfg.Valid) {a r : Half} (hs : s.mdioSeq = .read a r .storeRead) :
    exec (.read a r) s = .next { s.storeReg .cmd s.cfg.cmdRead with
      mdioSeq := .read a r (.secondWait (.poll s.cfg.retryBudget))
      history := s.history ++ [.st .mdiowin s.cfg.cmdOff s.cfg.cmdRead, .ld .mdiowin s.cfg.cmdOff s.cfg.cmdRead] } := by
  rw [exec_read hc hs, State.readNext, State.wrote_eq]
  rfl

/-- Settles O28: the store, case by case of the line and the latch. -/
theorem readStartsItsCycle : Obligations.ReadStartsItsCycle := by
  intro s a r hc hs
  have hb : s.level ≠ .openLine → s.beforeReset = !s.resetDone := fun hl => beforeReset_of_line hl (by rw [hs]; rfl)
  rw [exec_read_storeRead hc hs]
  refine ⟨fun hl => ?_, fun hl => ⟨fun hp hcmd => ⟨fun hd => ?_, fun hd b ts n hn => ?_⟩, fun hp hcmd => ?_,
    fun hp => ?_⟩⟩
  · rw [State.storeReg_openLine hl]
    rfl
  · rw [storeReg_cmdRead hl hp hcmd, State.trigger_taken (by rw [hb hl, hd]; rfl)]
  · rw [storeReg_cmdRead hl hp hcmd, State.trigger_chosen (by rw [hb hl, hd]; rfl) hn]
  · rw [storeReg_cmdRead_over hl hp hcmd]
  · rw [storeReg_cmdRead_busy hl hp]

/-- The micro-step that stores to `CTRL` (R161): the store, whatever the line makes of it. -/
theorem exec_write_storeCtrl (hc : s.cfg.Valid) {a r v : Half} (hs : s.mdioSeq = .write a r v .storeCtrl) :
    exec (.write a r v) s = .next { s.storeReg .ctrl (zextWord v) with
      mdioSeq := .write a r v (.finalWait (.poll s.cfg.retryBudget))
      history := s.history ++ [.st .mdiowin s.cfg.ctrlOff (zextWord v), .ld .mdiowin s.cfg.ctrlOff (zextWord v),
        .log (a.setWidth 8) (r.setWidth 8) v] } := by
  rw [exec_write hc hs, State.writeNext, State.wrote_eq]
  simp [State.goTo, State.record, maskOctet, Config.fullWait]

/-- Settles O30: the store of the address, and the store to `CTRL` case by case of the line and the latch. -/
theorem writeMicroSteps : Obligations.WriteMicroSteps := by
  intro s a r v hc
  refine ⟨fun hidle => ?_, fun hs => ?_⟩
  · rw [exec_start hc hidle rfl, State.mdcStart_write, State.writeNext, State.wrote_addr, packAddr_eq]
    simp [State.goTo, State.openMdc, State.record]
  have hb : s.level ≠ .openLine → s.beforeReset = !s.resetDone := fun hl => beforeReset_of_line hl (by rw [hs]; rfl)
  rw [exec_write_storeCtrl hc hs, zextWord_eq]
  refine ⟨fun hl => ?_, fun hl => ⟨fun hp hcmd => ⟨fun hd => ?_, fun hd b ts n hn => ?_⟩, fun hfault => ?_,
    fun hp hw hr => ?_⟩⟩
  · rw [State.storeReg_openLine hl]
    rfl
  · rw [storeReg_ctrl_trigger hl hp hcmd, State.trigger_taken (by rw [hb hl, hd]; rfl), ← zextWord_eq,
      dataField_zextWord]
  · rw [storeReg_ctrl_trigger hl hp hcmd, State.trigger_chosen (by rw [hb hl, hd]; rfl) hn, ← zextWord_eq,
      dataField_zextWord]
  · rw [storeReg_ctrl_fault hc hl hfault]
  · rw [storeReg_ctrl_over hl hp hw hr]

end Sys2Proof
end

section
/-! SUPPORT. What one micro-step can change, operation by operation (10_state.md R34; 41_mdio_controller.md R150 to
R161): a store its register and the line, a load the line, everything else the sequencer and the history. -/

namespace Sys2Proof.Machine

variable {s t : State}

/-! ## One store -/

theorem State.exists_nextTurn (s : State) : ∃ b ts n, s.NextTurn b ts n := by
  cases hd : s.turns with
  | nil => exact ⟨_, _, _, .inr ⟨hd, rfl, rfl, rfl⟩⟩
  | cons b ts => exact ⟨b, ts, _, .inl ⟨hd, rfl⟩⟩

/-- What a trigger can change: a cycle starts, or the choice not to start it is used up. -/
theorem State.trigger_frame (s : State) (c : Cycle) :
    s.trigger c = { s with
      pending := (s.trigger c).pending, ind := (s.trigger c).ind, countdown := (s.trigger c).countdown
      turns := (s.trigger c).turns, drawn := (s.trigger c).drawn } := by
  cases hb : s.beforeReset with
  | false => rw [State.trigger_taken hb]; rfl
  | true =>
    obtain ⟨b, ts, n, hn⟩ := s.exists_nextTurn
    rw [State.trigger_chosen hb hn]
    cases b <;> rfl

/-- What a store to `CMD` can change besides the latch. -/
theorem State.lineCmdStore_frame (s : State) (v : Word) :
    s.lineCmdStore v = { s with
      pending := (s.lineCmdStore v).pending, ind := (s.lineCmdStore v).ind, countdown := (s.lineCmdStore v).countdown
      turns := (s.lineCmdStore v).turns, drawn := (s.lineCmdStore v).drawn
      lineFault := (s.lineCmdStore v).lineFault } := by
  unfold State.lineCmdStore
  split
  · split
    · rfl
    · split
      · rw [State.trigger_frame]
      · rfl
  · split <;> rfl

/-- What a store to `CTRL` can change besides `CTRL`. -/
theorem State.lineCtrlStore_frame (s : State) (v : Word) :
    s.lineCtrlStore v = { s with
      pending := (s.lineCtrlStore v).pending, ind := (s.lineCtrlStore v).ind
      countdown := (s.lineCtrlStore v).countdown, turns := (s.lineCtrlStore v).turns
      drawn := (s.lineCtrlStore v).drawn, lineFault := (s.lineCtrlStore v).lineFault } := by
  unfold State.lineCtrlStore
  split
  · rfl
  · split
    · rw [State.trigger_frame]
    · split <;> rfl

/-- What a store to `CMD` and its read-back can change. -/
theorem State.wrote_cmd_frame (s : State) (win : Window) (off : Nat) (v : Word) :
    ∃ p i k ts n f es, s.wrote .cmd win off v = { s with
      cmd := v, pending := p, ind := i, countdown := k, turns := ts, drawn := n, lineFault := f, history := es } := by
  by_cases hl : s.level = .openLine
  · rw [State.wrote_openLine hl]
    exact ⟨_, _, _, _, _, _, _, rfl⟩
  · rw [State.wrote_eq, State.storeReg_cmd hl, State.lineCmdStore_frame]
    exact ⟨_, _, _, _, _, _, _, rfl⟩

/-- What a store to `CTRL` and its read-back can change. -/
theorem State.wrote_ctrl_frame (s : State) (win : Window) (off : Nat) (v : Word) :
    ∃ p i k ts n f es, s.wrote .ctrl win off v = { s with
      ctrl := v, pending := p, ind := i, countdown := k, turns := ts, drawn := n, lineFault := f, history := es } := by
  by_cases hl : s.level = .openLine
  · rw [State.wrote_openLine hl]
    exact ⟨_, _, _, _, _, _, _, rfl⟩
  · rw [State.wrote_eq, State.storeReg_ctrl hl, State.lineCtrlStore_frame]
    exact ⟨_, _, _, _, _, _, _, rfl⟩

/-! ## One micro-step of a wait -/

/-- A micro-step of a wait loads `IND` or it does not; all else it changes is the sequencer and the history. -/
theorem State.waitNext_frame (s : State) (pos : WaitPos) (again : WaitPos → MdioSeq) {notBusy timedOut : State → State}
    (hn : ∀ u, ∃ q es, notBusy u = { u with mdioSeq := q, history := es })
    (ht : ∀ u, ∃ q es, timedOut u = { u with mdioSeq := q, history := es }) :
    ∃ u q es, (u = s ∨ u = (s.lineLoad .ind).2) ∧
      s.waitNext pos again notBusy timedOut = { u with mdioSeq := q, history := es } := by
  match pos with
  | .poll 0 =>
    obtain ⟨q, es, h⟩ := ht (s.record .diag)
    exact ⟨s, q, es, .inl rfl, h⟩
  | .poll (n + 1) =>
    refine ⟨(s.lineLoad .ind).2, ?_⟩
    rw [State.waitNext, State.polled, loaded_eq]
    split
    · exact ⟨_, _, .inr rfl, rfl⟩
    · obtain ⟨q, es, h⟩ := hn { (s.lineLoad .ind).2 with
        history := s.history ++ [.ld .mdiowin s.cfg.indOff (s.lineLoad .ind).1] }
      exact ⟨q, es, .inr rfl, h⟩
  | .delay n => exact ⟨s, _, _, .inl rfl, rfl⟩

/-- What a micro-step of a wait leaves alone; of the PHY cells all but the one a write cycle in flight is going to
change. -/
def State.WithinWait (s t : State) : Prop :=
  t = { s with
    mdioSeq := t.mdioSeq, history := t.history, ind := t.ind, status := t.status, pending := t.pending, phy := t.phy
    countdown := t.countdown, draws := t.draws, drawn := t.drawn } ∧
  ∀ n, s.cellInFlight ≠ some n → t.phy.read n = s.phy.read n

theorem State.waitNext_within (s : State) (pos : WaitPos) (again : WaitPos → MdioSeq) {notBusy timedOut : State → State}
    (hn : ∀ u, ∃ q es, notBusy u = { u with mdioSeq := q, history := es })
    (ht : ∀ u, ∃ q es, timedOut u = { u with mdioSeq := q, history := es }) :
    State.WithinWait s (s.waitNext pos again notBusy timedOut) := by
  obtain ⟨u, q, es, rfl | rfl, h⟩ := s.waitNext_frame pos again hn ht
  · rw [h]
    exact ⟨rfl, fun _ _ => rfl⟩
  · rw [h]
    exact ⟨by rw [s.lineLoad_ind_frame], fun n hcell => State.lineLoad_ind_cells hcell⟩

theorem State.goTo_frame (q : MdioSeq) (u : State) : ∃ q' es, u.goTo q = { u with mdioSeq := q', history := es } :=
  ⟨q, u.history, rfl⟩

theorem State.answerMdc_frame (r : Result) (u : State) :
    ∃ q es, u.answerMdc r = { u with mdioSeq := q, history := es } :=
  ⟨_, _, rfl⟩

/-! ## The waits of the operations -/

theorem State.waitOpNext_within (s : State) (pos : WaitPos) : s.WithinWait (s.waitOpNext pos) :=
  s.waitNext_within pos _ (fun u => u.answerMdc_frame _) fun u => u.answerMdc_frame _

theorem State.readNext_firstWait_within (s : State) (a r : Half) (w : WaitPos) :
    s.WithinWait (s.readNext a r (.firstWait w)) := by
  rw [State.readNext]
  exact s.waitNext_within w _ (fun u => u.goTo_frame _) fun u => u.answerMdc_frame _

theorem State.readNext_secondWait_within (s : State) (a r : Half) (w : WaitPos) :
    s.WithinWait (s.readNext a r (.secondWait w)) := by
  rw [State.readNext]
  exact s.waitNext_within w _ (fun u => u.goTo_frame _) fun u => u.goTo_frame _

theorem State.writeNext_finalWait_within (s : State) (a r v : Half) (w : WaitPos) :
    s.WithinWait (s.writeNext a r v (.finalWait w)) := by
  rw [State.writeNext]
  exact s.waitNext_within w _ (fun u => u.answerMdc_frame _) fun u => u.answerMdc_frame _

/-! ## The frames of the micro-steps -/

/-- What a micro-step of a transaction leaves alone: besides what a wait may change it may store to `CMD`, `ADDR` and
`CTRL`, take or leave a trigger, and fault the line. -/
def State.WithinTransaction (s t : State) : Prop :=
  t = { s with
    cmd := t.cmd, addr := t.addr, ctrl := t.ctrl, mdioSeq := t.mdioSeq, history := t.history, ind := t.ind
    status := t.status, pending := t.pending, phy := t.phy, lineFault := t.lineFault, countdown := t.countdown
    draws := t.draws, turns := t.turns, drawn := t.drawn } ∧
  ∀ n, s.cellInFlight ≠ some n → t.phy.read n = s.phy.read n

/-- A wait stays within that, and leaves the three registers alone. -/
theorem State.WithinWait.transaction (h : s.WithinWait t) :
    s.WithinTransaction t ∧ t.cmd = s.cmd ∧ t.addr = s.addr ∧ t.ctrl = s.ctrl := by
  obtain ⟨ht, hcells⟩ := h
  exact ⟨⟨by rw [ht], hcells⟩, by rw [ht], by rw [ht], by rw [ht]⟩

/-- `read` stores to `CMD` and `ADDR` only (R34, R158, R159). -/
theorem State.readNext_within (s : State) (a r : Half) (pos : ReadPos) :
    s.WithinTransaction (s.readNext a r pos) ∧ (s.readNext a r pos).ctrl = s.ctrl := by
  have hcmd : ∀ v q es, s.WithinTransaction { s.wrote .cmd .mdiowin s.cfg.cmdOff v with mdioSeq := q, history := es } ∧
      (s.wrote .cmd .mdiowin s.cfg.cmdOff v).ctrl = s.ctrl := fun v q es => by
    obtain ⟨p, i, k, ts, n, f, es', h⟩ := s.wrote_cmd_frame .mdiowin s.cfg.cmdOff v
    rw [h]
    exact ⟨⟨rfl, fun _ _ => rfl⟩, rfl⟩
  have hwait : ∀ {t}, s.WithinWait t → s.WithinTransaction t ∧ t.ctrl = s.ctrl := fun h => by
    obtain ⟨ht, -, -, hctrl⟩ := h.transaction
    exact ⟨ht, hctrl⟩
  cases pos with
  | firstWait w => exact hwait (s.readNext_firstWait_within a r w)
  | storeIdle => exact hcmd _ _ _
  | storeAddr =>
    rw [State.readNext, State.wrote_addr]
    exact ⟨⟨rfl, fun _ _ => rfl⟩, rfl⟩
  | storeRead => exact hcmd _ _ _
  | secondWait w => exact hwait (s.readNext_secondWait_within a r w)
  | abort => exact hcmd _ _ _
  | loadStatus =>
    rw [State.readNext, loaded_eq, s.lineLoad_status_frame]
    exact ⟨⟨rfl, fun _ _ => rfl⟩, rfl⟩
  | storeBack v => exact hcmd _ _ _

/-- `write` stores to `ADDR` and `CTRL` only (R34, R161, R170). -/
theorem State.writeNext_within (s : State) (a r v : Half) (pos : WritePos) :
    s.WithinTransaction (s.writeNext a r v pos) ∧ (s.writeNext a r v pos).cmd = s.cmd := by
  cases pos with
  | storeAddr =>
    rw [State.writeNext, State.wrote_addr]
    exact ⟨⟨rfl, fun _ _ => rfl⟩, rfl⟩
  | storeCtrl =>
    obtain ⟨p, i, k, ts, n, f, es, h⟩ := s.wrote_ctrl_frame .mdiowin s.cfg.ctrlOff (zextWord v)
    rw [State.writeNext, h]
    exact ⟨⟨rfl, fun _ _ => rfl⟩, rfl⟩
  | finalWait w =>
    obtain ⟨h, hcmd, -, -⟩ := (s.writeNext_finalWait_within a r v w).transaction
    exact ⟨h, hcmd⟩

/-- What a micro-step of `reset` leaves alone (R154, R155, R196). -/
def State.WithinReset (s t : State) : Prop :=
  t = { s with
    resetDone := t.resetDone, cfgReg := t.cfgReg, refRate := t.refRate, cmd := t.cmd, pending := t.pending
    ind := t.ind, mdioSeq := t.mdioSeq, clkAnswers := t.clkAnswers, drawn := t.drawn, history := t.history } ∧
  (s.level = .openLine → t.cmd = s.cmd ∧ t.pending = s.pending ∧ t.ind = s.ind) ∧
  t.ind &&& ~~~s.cfg.indBusy = s.ind &&& ~~~s.cfg.indBusy

/-- A store to `CFG` does what it does by `RESET_BIT` alone (R196). -/
theorem State.wrote_cfg_within (s : State) (win : Window) (off : Nat) (v : Word) (q : MdioSeq) (es : List Event) :
    s.WithinReset { s.wrote .cfg win off v with mdioSeq := q, history := es } := by
  by_cases hv : v &&& s.cfg.resetBit = 0#32
  · rw [State.wrote_cfgRelease hv]
    exact ⟨rfl, fun _ => ⟨rfl, rfl, rfl⟩, rfl⟩
  · rw [State.wrote_cfgAssert hv]
    refine ⟨rfl, fun hl => ?_, ?_⟩
    · simp [hl]
    · by_cases hl : s.level = .openLine
      · simp [hl]
      · simp [hl, BitVec.and_assoc]

theorem State.drawClk_frame (s : State) :
    s.drawClk.2 = { s with clkAnswers := s.drawClk.2.clkAnswers, drawn := s.drawClk.2.drawn } := by
  unfold State.drawClk
  split <;> rfl

theorem State.resetNext_within (s : State) (pos : ResetPos) : s.WithinReset (s.resetNext pos) := by
  cases pos with
  | query =>
    rw [State.resetNext, State.clkQuery, s.drawClk_frame, State.resetWithClock]
    split <;> exact ⟨rfl, fun _ => ⟨rfl, rfl, rfl⟩, rfl⟩
  | assert d => exact s.wrote_cfg_within .mdiowin s.cfg.cfgOff (BitVec.ofNat 32 d ||| s.cfg.resetBit) _ _
  | settleAsserted d => exact ⟨rfl, fun _ => ⟨rfl, rfl, rfl⟩, rfl⟩
  | release d => exact s.wrote_cfg_within .mdiowin s.cfg.cfgOff (BitVec.ofNat 32 d) _ _
  | settleReleased =>
    simp only [State.resetNext, State.delay, State.record, State.markReset, State.answerMdc]
    exact ⟨rfl, fun _ => ⟨rfl, rfl, rfl⟩, rfl⟩

end Sys2Proof.Machine
end

section
/-! SUPPORT. The frames of the MDIO operations (10_state.md R34; 41_mdio_controller.md R154 to R170). -/

namespace Sys2Proof

open Machine

variable {s t : State}

/-- An operation that is accepted or goes on makes a micro-step from a state that differs in the sequencer and the
history only. -/
theorem exec_mdc_micro (hc : s.cfg.Valid) {i : Instr} (hx : exec i s = .next t) (hi : componentOf i = .mdc)
    (hne : i ≠ .computeDivider) :
    ∃ q es, q.instr = some i ∧ t = State.mdcNext { s with mdioSeq := q, history := es } := by
  obtain ⟨-, rfl⟩ | ⟨hopen, rfl⟩ := exec_mdc_cases hc hi hx
  · obtain ⟨hfirst, hstart⟩ := mdcStart_opens (s := s) hi hne
    exact ⟨_, _, hfirst, hstart⟩
  · exact ⟨_, _, hopen, rfl⟩

/-- Settles O33: a micro-step of a wait. -/
theorem waitNotBusyFrame : Obligations.WaitNotBusyFrame := by
  intro s t hc hx
  obtain ⟨q, es, hq, rfl⟩ := exec_mdc_micro hc hx rfl nofun
  cases q with
  | waitNotBusy pos =>
    exact State.waitOpNext_within { s with mdioSeq := .waitNotBusy pos, history := es } pos
  | _ => cases hq

/-- Settles O35: the query, the two stores to `CFG`, the two delays. -/
theorem resetFrame : Obligations.ResetFrame := by
  intro s t hc hx
  obtain ⟨q, es, hq, rfl⟩ := exec_mdc_micro hc hx rfl nofun
  cases q with
  | reset pos => exact State.resetNext_within { s with mdioSeq := .reset pos, history := es } pos
  | _ => cases hq

/-- Settles O36: a transaction that leaves `CTRL` alone. -/
theorem readFrame : Obligations.ReadFrame := by
  intro s t a r hc hx
  obtain ⟨q, es, hq, rfl⟩ := exec_mdc_micro hc hx rfl nofun
  cases q with
  | read a r pos =>
    cases hq
    obtain ⟨⟨ht, hcells⟩, hctrl⟩ := State.readNext_within { s with mdioSeq := .read a r pos, history := es } a r pos
    rw [State.mdcNext_read rfl]
    refine ⟨?_, hcells⟩
    rw [hctrl] at ht
    exact ht
  | _ => cases hq

/-- Settles O37: a transaction that leaves `CMD` alone. -/
theorem writeFrame : Obligations.WriteFrame := by
  intro s t a r v hc hx
  obtain ⟨q, es, hq, rfl⟩ := exec_mdc_micro hc hx rfl nofun
  cases q with
  | write a r v pos =>
    cases hq
    obtain ⟨⟨ht, hcells⟩, hcmd⟩ :=
      State.writeNext_within { s with mdioSeq := .write a r v pos, history := es } a r v pos
    rw [State.mdcNext_write rfl]
    refine ⟨?_, hcells⟩
    rw [hcmd] at ht
    exact ht
  | _ => cases hq

end Sys2Proof
end

section
/-! SUPPORT. What an operation that answers adds to the history: no response, or one, last, when it is at its end
(00_scope.md R17; 60_exceptions.md R212, R226). -/

namespace Sys2Proof.Machine

variable {s t u : State} {i : Instr} {c : Component} {r : Result}

/-- From `s` to `t` the history has gained events, none of them a response. -/
def State.Quiet (s t : State) : Prop := ∃ evs, t.history = s.history ++ evs ∧ ∀ e ∈ evs, e.result = none

/-- From `s` to `t` the history has gained events of which the last, and no other, is a response. -/
def State.Responds (s t : State) (c : Component) (r : Result) : Prop :=
  ∃ evs, t.history = s.history ++ (evs ++ [.resp (some c) r]) ∧ ∀ e ∈ evs, e.result = none

theorem State.Quiet.refl (s : State) : s.Quiet s := ⟨[], (List.append_nil _).symm, List.forall_mem_nil _⟩

/-- A request is no response. -/
theorem State.quiet_openMdc (s : State) (i : Instr) (q : MdioSeq) : s.Quiet (s.openMdc i q) :=
  ⟨[.req i], rfl, by simp [Event.result]⟩

theorem State.Quiet.proceeds {evs : List Event} (h : s.Quiet u) (hu : u.Proceeds evs t) : s.Quiet t := by
  obtain ⟨pre, hpre, hquiet⟩ := h
  refine ⟨pre ++ evs, by rw [hu.history, hpre, List.append_assoc], fun e he => ?_⟩
  exact (List.mem_append.mp he).elim (hquiet e) (hu.quiet e)

theorem State.Quiet.answerMdc (h : s.Quiet u) (r : Result) : s.Responds (u.answerMdc r) .mdc r := by
  obtain ⟨evs, hevs, hquiet⟩ := h
  exact ⟨evs, by simp [hevs], hquiet⟩

/-- What an MDIO operation that answers has done: it is open and has sent no response, or it has ended with one. -/
def State.EndsOrGoesOn (s : State) (i : Instr) (t : State) : Prop :=
  (s.Quiet t ∧ t.mdioSeq ≠ .idle) ∨ ∃ r, s.Responds t .mdc r ∧ resultAllowed i r = true ∧ t.mdioSeq = .idle

theorem State.MicroStep.endsOrGoesOn (h : u.MicroStep i t) (hu : s.Quiet u) : s.EndsOrGoesOn i t := by
  cases h with
  | goesOn hp hi =>
    have hquiet := hu.proceeds hp
    exact .inl ⟨hquiet, MdioSeq.ne_idle_of_instr hi⟩
  | answers hp hr => exact .inr ⟨_, (hu.proceeds hp).answerMdc _, hr, rfl⟩

theorem exec_mdc_endsOrGoesOn (hc : s.cfg.Valid) (hx : exec i s = .next t) (hi : componentOf i = .mdc) :
    s.EndsOrGoesOn i t := by
  obtain ⟨-, rfl⟩ | ⟨hopen, rfl⟩ := exec_mdc_cases hc hi hx
  · obtain ⟨r, hstart, hr⟩ | ⟨hfirst, hstart⟩ := s.mdcStart_cases hi
    · rw [hstart]
      exact .inr ⟨r, (s.quiet_openMdc i .idle).answerMdc r, hr, rfl⟩
    · rw [hstart]
      exact (State.mdcNext_microStep (s := s.openMdc i (firstPos s.cfg i)) hfirst).endsOrGoesOn (s.quiet_openMdc i _)
  · exact (State.mdcNext_microStep hopen).endsOrGoesOn (.refl s)

/-- A selector operation has always ended with a response. -/
theorem exec_sel_responds (hc : s.cfg.Valid) (hx : exec i s = .next t) (hi : componentOf i = .sel) :
    ∃ r, s.Responds t .sel r ∧ resultAllowed i r = true ∧ t.selSeq = .idle := by
  obtain ⟨u, evs, r, hu, -, hidle, -, hhistory, hquiet, hr⟩ := exec_sel_answers hc (exec_sel_idle hi hx) hi
  cases hu.symm.trans hx
  exact ⟨r, ⟨.req i :: evs, hhistory, List.forall_mem_cons.mpr ⟨rfl, hquiet⟩⟩, hr, hidle⟩

/-- The responses among the events added. -/
theorem State.Quiet.results (h : s.Quiet t) :
    ∃ evs, t.history = s.history ++ evs ∧ evs.filterMap Event.result = [] := by
  obtain ⟨evs, hevs, hquiet⟩ := h
  exact ⟨evs, hevs, List.filterMap_eq_nil_iff.mpr hquiet⟩

theorem State.Responds.results (h : s.Responds t c r) :
    ∃ evs, t.history = s.history ++ evs ∧ evs.filterMap Event.result = [r] ∧
      evs.getLast? = some (.resp (some c) r) := by
  obtain ⟨evs, hevs, hquiet⟩ := h
  refine ⟨_, hevs, ?_, by simp⟩
  rw [List.filterMap_append, List.filterMap_eq_nil_iff.mpr hquiet]
  rfl

/-- What `compute_divider` finds is an entry of the table (R150). -/
theorem exec_computeDivider_responds (hc : s.cfg.Valid) (hx : exec .computeDivider s = .next t) :
    ∃ r, s.Responds t .mdc r ∧ ∀ d, r = .okValue d → d ∈ s.cfg.dividerTable := by
  obtain ⟨-, rfl⟩ | ⟨hopen, -⟩ := exec_mdc_cases hc rfl hx
  · unfold State.mdcStart
    cases hd : s.cfg.divider s.refRate with
    | none => exact ⟨_, (s.quiet_openMdc .computeDivider .idle).answerMdc _, nofun⟩
    | some d =>
      refine ⟨_, (s.quiet_openMdc .computeDivider .idle).answerMdc _, fun e he => ?_⟩
      cases he
      exact hc.divider_mem hd
  · cases hs : s.mdioSeq <;> simp [hs, MdioSeq.instr] at hopen

end Sys2Proof.Machine
end

section
/-! SUPPORT. The statements about results and response words (30_encoding.md R96; 60_exceptions.md R211, R212). -/

namespace Sys2Proof

open Machine

variable {s t : State} {i : Instr}

/-- Settles O60: an MDIO operation goes on or ends, a selector operation ends. -/
theorem resultsOfEachOperation : Obligations.ResultsOfEachOperation := by
  intro s t i hc hx
  cases hi : componentOf i with
  | mdc =>
    obtain ⟨hquiet, hopen⟩ | ⟨r, hresponds, hr, hidle⟩ := exec_mdc_endsOrGoesOn hc hx hi
    · obtain ⟨evs, hevs, hnone⟩ := hquiet.results
      exact ⟨evs, hevs, .inl hnone, fun _ => by simp [hopen, hnone], nofun⟩
    · obtain ⟨evs, hevs, hone, hlast⟩ := hresponds.results
      exact ⟨evs, hevs, .inr ⟨r, hone, hr, hlast⟩, fun _ => by simp [hidle, hone], nofun⟩
  | sel =>
    obtain ⟨r, hresponds, hr, hidle⟩ := exec_sel_responds hc hx hi
    obtain ⟨evs, hevs, hone, hlast⟩ := hresponds.results
    exact ⟨evs, hevs, .inr ⟨r, hone, hr, hlast⟩, nofun, fun _ => ⟨hidle, by simp [hone]⟩⟩

/-- A response word in arithmetic (R96). -/
theorem responseWord_toNat (code : BitVec 4) (value : Half) :
    ((code.setWidth 32 <<< 16) ||| value.setWidth 32).toNat = code.toNat * 65536 + value.toNat := by
  have hhigh : ((code.setWidth 32) <<< 16).toNat = code.toNat <<< 16 := by
    rw [BitVec.toNat_shiftLeft, BitVec.toNat_setWidth_of_le (by decide), Nat.shiftLeft_eq]
    omega
  rw [BitVec.toNat_or, hhigh, BitVec.toNat_setWidth_of_le (by decide), ← Nat.shiftLeft_add_eq_or_of_lt value.isLt,
    Nat.shiftLeft_eq]

/-- Its fields. -/
theorem responseWord_fields (code : BitVec 4) (value : Half) {w : Word}
    (hw : w = (code.setWidth 32 <<< 16) ||| value.setWidth 32) :
    w >>> 20 = 0#32 ∧ (w >>> 16).toNat = code.toNat ∧ (w &&& 0xFFFF#32).toNat = value.toNat := by
  have hnat : w.toNat = code.toNat * 65536 + value.toNat := by rw [hw, responseWord_toNat]
  have hlow : (w &&& 0xFFFF#32).toNat = w.toNat % 65536 := by
    rw [BitVec.toNat_and]
    exact Nat.and_two_pow_sub_one_eq_mod w.toNat 16
  refine ⟨BitVec.eq_of_toNat_eq ?_, ?_, by rw [hlow]; omega⟩
  · rw [BitVec.toNat_ushiftRight, Nat.shiftRight_eq_div_pow, BitVec.toNat_ofNat]
    omega
  · rw [BitVec.toNat_ushiftRight, Nat.shiftRight_eq_div_pow]
    omega

/-- A result whose value fits has a response word, with its code and its value; another has none (R96, R211). -/
theorem responseWord_word {c : Config} (hform : c.HasBinaryForm) (r : Result) :
    (r.valueField ≤ 65535 →
        ∃ w, c.responseWord r = .ok w ∧ w >>> 20 = 0#32 ∧ (w >>> 16).toNat = r.code.toNat ∧
          (w &&& 0xFFFF#32).toNat = r.valueField) ∧
      (65535 < r.valueField → c.responseWord r = .error .noBinaryForm) := by
  refine ⟨fun hr => ?_, fun hr => ?_⟩
  · have hlt := Nat.lt_succ_of_le hr
    obtain ⟨hzero, hcode, hvalue⟩ := responseWord_fields r.code (BitVec.ofNat 16 r.valueField) rfl
    exact ⟨_, Config.responseWord_eq hform hlt, hzero, hcode, by rw [hvalue, BitVec.toNat_ofNat, Nat.mod_eq_of_lt hlt]⟩
  · rw [Config.responseWord, if_pos hform, Result.word, if_neg (Nat.not_lt_of_ge hr)]

/-- Every result of an operation but `compute_divider` has a value that fits (R96, R212). -/
theorem valueField_lt_of_resultAllowed {r : Result} (hne : i ≠ .computeDivider) (h : resultAllowed i r = true) :
    r.valueField < 65536 := by
  cases r with
  | ok => decide
  | error k => exact Nat.zero_lt_succ _
  | okValue v =>
    cases i with
    | computeDivider => exact absurd rfl hne
    | read a r => exact of_decide_eq_true h
    | _ => cases h

/-- Under a valid configuration that has the binary form, an operation that answers sends no response, or one whose
value fits. -/
theorem exec_valueField (hc : s.cfg.Valid) (hform : s.cfg.HasBinaryForm) (hx : exec i s = .next t) :
    s.Quiet t ∨ ∃ c r, s.Responds t c r ∧ r.valueField < 65536 := by
  by_cases hne : i = .computeDivider
  · subst hne
    obtain ⟨r, hresponds, hd⟩ := exec_computeDivider_responds hc hx
    refine .inr ⟨_, r, hresponds, ?_⟩
    cases r with
    | ok => decide
    | error k => exact Nat.zero_lt_succ _
    | okValue d => exact hform d (hd d rfl)
  · cases hi : componentOf i with
    | mdc =>
      obtain ⟨hquiet, -⟩ | ⟨r, hresponds, hr, -⟩ := exec_mdc_endsOrGoesOn hc hx hi
      · exact .inl hquiet
      · exact .inr ⟨_, r, hresponds, valueField_lt_of_resultAllowed hne hr⟩
    | sel =>
      obtain ⟨r, hresponds, hr, -⟩ := exec_sel_responds hc hx hi
      exact .inr ⟨_, r, hresponds, valueField_lt_of_resultAllowed hne hr⟩

/-- Settles O5: the layout of the word, and that no response of an operation is too large for it. -/
theorem responseWords : Obligations.ResponseWords := by
  refine ⟨fun c r => ⟨fun ⟨d, hd, hlarge⟩ => ?_, fun htable => ?_⟩, fun s t i hc htable hx => ?_⟩
  · exact Config.responseWord_refused fun hform => absurd (hform d hd) (by omega)
  · have hform : c.HasBinaryForm := fun d hd => Nat.lt_succ_of_le (htable d hd)
    have hword := responseWord_word hform r
    cases r with
    | ok => exact hword
    | okValue v => exact hword
    | error k => cases k <;> exact hword
  · have hform : s.cfg.HasBinaryForm := fun d hd => Nat.lt_succ_of_le (htable d hd)
    obtain hquiet | ⟨c, r, hresponds, hr⟩ := exec_valueField hc hform hx
    · obtain ⟨evs, hevs, hnone⟩ := hquiet
      refine ⟨evs, hevs, fun e he r hr => ?_⟩
      rw [hnone e he] at hr
      cases hr
    · obtain ⟨evs, hevs, hone, -⟩ := hresponds.results
      refine ⟨evs, hevs, fun e he r' hr' => ?_⟩
      have hmem : r' ∈ evs.filterMap Event.result := List.mem_filterMap.mpr ⟨e, he, hr'⟩
      rw [hone, List.mem_singleton] at hmem
      subst hmem
      exact ⟨_, Config.responseWord_eq hform hr⟩

end Sys2Proof
end

section
/-! SUPPORT. The line's side of the invariant (10_state.md R38; 42_mdio_device_side.md R192): the PHY cells stay in
canonical form and the busy bit follows the cycle in flight, whatever is loaded, stored or completed. -/

namespace Sys2Proof.Machine

variable {s t : State}

/-- The PHY cells are in canonical form, and the busy bit follows the cycle in flight. -/
def State.LineOk (s : State) : Prop := s.phy.wf = true ∧ s.BusyFollowsPending

theorem State.LineOk.completeCycle (h : s.LineOk) : s.completeCycle.LineOk := by
  obtain ⟨hwf, hbusy⟩ := h
  refine ⟨State.completeCycle_wf hwf, ?_⟩
  cases hp : s.pending with
  | none =>
    rw [State.completeCycle, hp]
    exact hbusy
  | some c =>
    have hclear := State.completeCycle_notBusy hp
    exact .inr (by simp [hclear])

theorem State.LineOk.indTick (h : s.LineOk) : s.indTick.LineOk := by
  obtain ⟨k, hk⟩ | ⟨-, hk⟩ := s.indTick_cases
  · rw [hk]
    exact h
  · rw [hk]
    exact h.completeCycle

/-- The busy bit is all the line keeps of `IND` at a load (R198, R200). -/
theorem State.LineOk.lineLoad_ind (h : s.LineOk) : (s.lineLoad .ind).2.LineOk := by
  cases hb : s.beforeReset with
  | true =>
    obtain ⟨x, ds, n, hx⟩ := s.indTick.exists_nextWord
    rw [State.lineLoad_ind_before hb, hx.drawWord_eq]
    exact h.indTick
  | false =>
    obtain ⟨x, ds, n, hx⟩ := s.exists_nextWord
    cases hl : s.level with
    | openLine =>
      rw [State.lineLoad_ind_openLine hl hx]
      exact ⟨h.1, .inl hl⟩
    | wellBehaved =>
      rw [State.lineLoad_ind_line hb hl hx]
      exact ⟨h.1, by simpa [State.BusyFollowsPending, State.lineInd, Config.busyIn_mix] using h.2⟩
    | simPhy l =>
      obtain ⟨hwf, hbusy⟩ := h.indTick
      rw [State.lineLoad_ind_simPhy hb hl]
      exact ⟨hwf, by simpa [State.BusyFollowsPending, Config.busyIn_and] using hbusy⟩

theorem State.LineOk.lineLoad_status (h : s.LineOk) : (s.lineLoad .status).2.LineOk := by
  rw [s.lineLoad_status_frame]
  exact h

theorem State.LineOk.clearCycle (h : s.LineOk) : s.clearCycle.LineOk :=
  ⟨h.1, .inr (by simp [Config.busyIn_clear])⟩

/-- A cycle that starts sets the busy bit (R193, R194). -/
theorem State.LineOk.trigger (h : s.LineOk) (hc : s.cfg.Valid) (c : Cycle) : (s.trigger c).LineOk := by
  have hstart : (s.withCycle c).LineOk := ⟨h.1, .inr (by simp [State.withCycle, hc.busyIn_set])⟩
  cases hb : s.beforeReset with
  | false =>
    rw [State.trigger_taken hb]
    exact hstart
  | true =>
    obtain ⟨b, ts, n, hn⟩ := s.exists_nextTurn
    rw [State.trigger_chosen hb hn]
    cases b with
    | false => exact h
    | true => exact hstart

theorem State.LineOk.lineCmdStore (h : s.LineOk) (hc : s.cfg.Valid) (v : Word) : (s.lineCmdStore v).LineOk := by
  unfold State.lineCmdStore
  split
  · split
    · exact h
    · split
      · exact h.trigger hc _
      · exact h
  · split <;> exact h

theorem State.LineOk.lineCtrlStore (h : s.LineOk) (hc : s.cfg.Valid) (v : Word) : (s.lineCtrlStore v).LineOk := by
  unfold State.lineCtrlStore
  split
  · exact h
  · split
    · exact h.trigger hc _
    · split <;> exact h

theorem State.LineOk.lineCfgStore (h : s.LineOk) (v : Word) : (s.lineCfgStore v).LineOk := by
  unfold State.lineCfgStore
  split
  · exact h.clearCycle
  · exact h

theorem State.LineOk.lineStore (h : s.LineOk) (hc : s.cfg.Valid) (r : Reg) (v : Word) : (s.lineStore r v).LineOk := by
  unfold State.lineStore
  split
  · exact h
  all_goals
    cases r with
    | cfg => exact h.lineCfgStore v
    | cmd => exact h.lineCmdStore hc v
    | ctrl => exact h.lineCtrlStore hc v
    | _ => exact h

/-- No store is to `IND` (R33). -/
theorem State.LineOk.wrote (h : s.LineOk) (hc : s.cfg.Valid) {r : Reg} (hr : r ≠ .ind) (win : Window) (off : Nat)
    (v : Word) : (s.wrote r win off v).LineOk := by
  have hstore := h.lineStore hc r v
  cases r with
  | ind => exact absurd rfl hr
  | _ => exact hstore

/-! The sequencer and the history are no part of it. -/

theorem State.LineOk.goTo (h : s.LineOk) (q : MdioSeq) : (s.goTo q).LineOk := h
theorem State.LineOk.record (h : s.LineOk) (e : Event) : (s.record e).LineOk := h
theorem State.LineOk.markReset (h : s.LineOk) : s.markReset.LineOk := h
theorem State.LineOk.answerMdc (h : s.LineOk) (r : Result) : (s.answerMdc r).LineOk := h

/-- LINE's opportunity: a choice is used up, or the cycle in flight completes (R195). -/
theorem State.lineTurn_cases (s : State) :
    (∃ ts n, s.lineTurn = { s with turns := ts, drawn := n }) ∨
      s.pending ≠ none ∧ ∃ ts n, s.lineTurn = State.completeCycle { s with turns := ts, drawn := n } := by
  unfold State.lineTurn
  split
  · exact .inl ⟨_, _, rfl⟩
  · exact .inl ⟨_, _, rfl⟩
  · split
    · exact .inl ⟨_, _, rfl⟩
    · rename_i c hp
      obtain ⟨b, ts, n, hn⟩ := s.exists_nextTurn
      rw [hn.drawTurn_eq]
      cases b with
      | false => exact .inl ⟨ts, n, rfl⟩
      | true => exact .inr ⟨by simp [hp], ts, n, rfl⟩

theorem State.LineOk.lineTurn (h : s.LineOk) : s.lineTurn.LineOk := by
  obtain ⟨ts, n, hturn⟩ | ⟨-, ts, n, hturn⟩ := s.lineTurn_cases
  · rw [hturn]
    exact h
  · rw [hturn]
    exact State.LineOk.completeCycle (s := { s with turns := ts, drawn := n }) h

/-- LINE starts no cycle (R195). -/
theorem State.lineTurn_pending (h : s.pending = none) : s.lineTurn.pending = none := by
  obtain ⟨ts, n, hturn⟩ | ⟨hp, -⟩ := s.lineTurn_cases
  · rw [hturn]
    exact h
  · exact absurd h hp

/-- A load of a register of the line's. -/
theorem State.LineOk.loaded (h : s.LineOk) {r : Reg} (hr : r = .ind ∨ r = .status) (win : Window) (off : Nat) :
    (s.loaded r win off).LineOk := by
  rw [State.loaded, State.loadReg]
  obtain rfl | rfl := hr
  · exact h.lineLoad_ind.record _
  · exact h.lineLoad_status.record _

/-! ## A micro-step -/

/-- A micro-step of a wait keeps the line's side, if its continuations do. -/
theorem State.LineOk.waitNext (h : s.LineOk) (pos : WaitPos) (again : WaitPos → MdioSeq)
    {notBusy timedOut : State → State} (hn : ∀ u : State, u.LineOk → (notBusy u).LineOk)
    (ht : ∀ u : State, u.LineOk → (timedOut u).LineOk) : (s.waitNext pos again notBusy timedOut).LineOk := by
  match pos with
  | .poll 0 => exact ht _ h
  | .poll (n + 1) =>
    rw [State.waitNext]
    split
    · exact (h.loaded (.inl rfl) _ _).goTo _
    · exact hn _ (h.loaded (.inl rfl) _ _)
  | .delay n => exact (h.record _).goTo _

theorem State.LineOk.resetNext (h : s.LineOk) (hc : s.cfg.Valid) (pos : ResetPos) : (s.resetNext pos).LineOk := by
  cases pos with
  | query =>
    rw [State.resetNext, State.clkQuery, s.drawClk_frame, State.resetWithClock]
    split <;> exact h
  | assert d => exact (h.wrote hc (by decide) _ _ _).goTo _
  | settleAsserted d => exact (h.record _).goTo _
  | release d => exact (h.wrote hc (by decide) _ _ _).goTo _
  | settleReleased => exact (h.record _).markReset.answerMdc _

theorem State.LineOk.readNext (h : s.LineOk) (hc : s.cfg.Valid) (a r : Half) (pos : ReadPos) :
    (s.readNext a r pos).LineOk := by
  cases pos with
  | firstWait w => exact h.waitNext w _ (fun _ hu => hu.goTo _) fun _ hu => hu.answerMdc _
  | storeIdle => exact (h.wrote hc (by decide) _ _ _).goTo _
  | storeAddr => exact (h.wrote hc (by decide) _ _ _).goTo _
  | storeRead => exact (h.wrote hc (by decide) _ _ _).goTo _
  | secondWait w => exact h.waitNext w _ (fun _ hu => hu.goTo _) fun _ hu => hu.goTo _
  | abort => exact (h.wrote hc (by decide) _ _ _).answerMdc _
  | loadStatus => exact (h.loaded (.inr rfl) _ _).goTo _
  | storeBack v => exact ((h.wrote hc (by decide) _ _ _).record _).answerMdc _

theorem State.LineOk.writeNext (h : s.LineOk) (hc : s.cfg.Valid) (a r v : Half) (pos : WritePos) :
    (s.writeNext a r v pos).LineOk := by
  cases pos with
  | storeAddr => exact (h.wrote hc (by decide) _ _ _).goTo _
  | storeCtrl => exact ((h.wrote hc (by decide) _ _ _).record _).goTo _
  | finalWait w => exact h.waitNext w _ (fun _ hu => hu.answerMdc _) fun _ hu => hu.answerMdc _

theorem State.LineOk.mdcNext (h : s.LineOk) (hc : s.cfg.Valid) : s.mdcNext.LineOk := by
  unfold State.mdcNext
  split
  · exact h
  · exact h.resetNext hc _
  · exact h.waitNext _ _ (fun _ hu => hu.answerMdc _) fun _ hu => hu.answerMdc _
  · exact h.readNext hc _ _ _
  · exact h.writeNext hc _ _ _ _

end Sys2Proof.Machine
end

section
/-! SUPPORT. What a step does to the MdioController, case by case, and what one micro-step does to the latch, the line's
fault mark, the note of a successful `reset` and the position (41_mdio_controller.md R154 to R170;
42_mdio_device_side.md R199). -/

namespace Sys2Proof.Machine

variable {s t : State}

/-! ## A step as the MdioController sees it -/

/-- An accepted MDIO operation makes its first micro-step, or it is `compute_divider` and has only recorded. -/
theorem State.mdcStart_micro {i : Instr} (hidle : s.mdioSeq = .idle) (hi : componentOf i = .mdc) :
    (∃ es, s.mdcStart i = { s with history := es }) ∨
      (firstPos s.cfg i).instr = some i ∧
        ∃ es, s.mdcStart i = State.mdcNext { s with mdioSeq := firstPos s.cfg i, history := es } := by
  obtain ⟨r, hstart, -⟩ | ⟨hfirst, hstart⟩ := s.mdcStart_cases hi
  · rw [hstart]
    exact .inl ⟨_, by rw [State.answerMdc, ← hidle]; rfl⟩
  · exact .inr ⟨hfirst, _, hstart⟩

/-- From `s` to `u` only LINE has moved, but for the port words, the requests, the sequencer and the history. -/
structure State.OnlyLineMoved (s u : State) : Prop where
  cfg : u.cfg = s.cfg
  level : u.level = s.level
  cmd : u.cmd = s.cmd
  resetDone : u.resetDone = s.resetDone
  lineFault : u.lineFault = s.lineFault
  selSeq : u.selSeq = s.selSeq
  lineOk : s.LineOk → u.LineOk
  pending : s.pending = none → u.pending = none

/-- LINE's opportunity and what HOST and `SEL` do after it. -/
theorem State.onlyLineMoved (s : State) (rs : List Request) (m0 m1 : Word) (q : MdioSeq) (es : List Event) :
    s.OnlyLineMoved { s.lineTurn with
      requests := rs, miictrl0 := m0, miictrl1 := m1, mdioSeq := q, history := es } where
  cfg := s.lineTurn_cfg
  level := s.lineTurn_level
  cmd := s.lineTurn_cmd
  resetDone := s.lineTurn_resetDone
  lineFault := s.lineTurn_lineFault
  selSeq := s.lineTurn_selSeq
  lineOk := State.LineOk.lineTurn
  pending := State.lineTurn_pending

/-- After that, either the MdioController has not moved, or it has made a micro-step at its position or at the first of
the operation just accepted (R39). -/
theorem step_mdio_cases (h : step s = .next t) :
    s.OnlyLineMoved t ∧ t.mdioSeq = s.mdioSeq ∨
      ∃ i u, s.OnlyLineMoved u ∧ (u.mdioSeq = s.mdioSeq ∨ s.mdioSeq = .idle ∧ u.mdioSeq = firstPos s.cfg i) ∧
        u.mdioSeq.instr = some i ∧ t = u.mdcNext := by
  obtain ⟨hc, u, ⟨rs, rfl⟩, hcase⟩ := step_cases h
  have hturn : s.lineTurn.mdioSeq = s.mdioSeq := s.lineTurn_mdioSeq
  obtain ⟨rfl, -⟩ | ⟨w, rfl⟩ | ⟨i, hi, hx⟩ | ⟨i, hi, hidle, rfl⟩ | ⟨hopen, rfl⟩ := hcase
  · exact .inl ⟨s.onlyLineMoved _ _ _ _ _, hturn⟩
  · exact .inl ⟨s.onlyLineMoved _ _ _ _ _, hturn⟩
  · obtain ⟨p, hp⟩ := exists_port_of_sel hi
    obtain ⟨ht, -, -⟩ := selectorFrame { s.lineTurn with requests := rs } t i p (by simpa using hc) hp hx
    rw [ht]
    exact .inl ⟨s.onlyLineMoved _ _ _ _ _, hturn⟩
  · obtain ⟨es, hstart⟩ | ⟨hfirst, es, hstart⟩ := State.mdcStart_micro hidle hi
    · rw [hstart]
      exact .inl ⟨s.onlyLineMoved _ _ _ _ _, hturn⟩
    · have hpos : firstPos s.lineTurn.cfg i = firstPos s.cfg i := by rw [s.lineTurn_cfg]
      exact .inr ⟨i, _, s.onlyLineMoved _ _ _ _ es, .inr ⟨hturn.symm.trans hidle, hpos⟩, hfirst, hstart⟩
  · obtain ⟨i, hi⟩ := MdioSeq.exists_instr hopen
    have hmoved := s.onlyLineMoved rs s.lineTurn.miictrl0 s.lineTurn.miictrl1 s.lineTurn.mdioSeq s.lineTurn.history
    exact .inr ⟨i, _, hmoved, .inl hturn, hi, rfl⟩

theorem step_valid_of_next (h : step s = .next t) : s.cfg.Valid := (step_cases h).1

/-- A step leaves an idle selector sequencer idle. -/
theorem step_selSeq (h : step s = .next t) (hsel : s.selSeq = .idle) : t.selSeq = .idle := by
  obtain ⟨hline, -⟩ | ⟨i, u, hline, -, hi, rfl⟩ := step_mdio_cases h
  · exact hline.selSeq.trans hsel
  · exact (State.mdcNext_microStep hi).keeps.2.trans (hline.selSeq.trans hsel)

/-! ## Level and note of a successful reset -/

theorem State.WithinWait.cfg (h : s.WithinWait t) : t.cfg = s.cfg := by rw [h.1]
theorem State.WithinWait.level (h : s.WithinWait t) : t.level = s.level := by rw [h.1]
theorem State.WithinWait.resetDone (h : s.WithinWait t) : t.resetDone = s.resetDone := by rw [h.1]
theorem State.WithinWait.lineFault (h : s.WithinWait t) : t.lineFault = s.lineFault := by rw [h.1]
theorem State.WithinWait.cmd (h : s.WithinWait t) : t.cmd = s.cmd := by rw [h.1]
theorem State.WithinTransaction.cfg (h : s.WithinTransaction t) : t.cfg = s.cfg := by rw [h.1]
theorem State.WithinTransaction.level (h : s.WithinTransaction t) : t.level = s.level := by rw [h.1]
theorem State.WithinTransaction.resetDone (h : s.WithinTransaction t) : t.resetDone = s.resetDone := by rw [h.1]
theorem State.WithinReset.cfg (h : s.WithinReset t) : t.cfg = s.cfg := by rw [h.1]
theorem State.WithinReset.level (h : s.WithinReset t) : t.level = s.level := by rw [h.1]
theorem State.WithinReset.lineFault (h : s.WithinReset t) : t.lineFault = s.lineFault := by rw [h.1]

@[simp] theorem State.mdcNext_level (s : State) : s.mdcNext.level = s.level := by
  unfold State.mdcNext
  split
  · rfl
  · exact (s.resetNext_within _).level
  · exact (s.waitOpNext_within _).level
  · exact (s.readNext_within _ _ _).1.level
  · exact (s.writeNext_within _ _ _ _).1.level

/-- Only the last micro-step of a `reset` notes its success (R243). -/
theorem State.mdcNext_resetDone (s : State) :
    s.mdcNext.resetDone = s.resetDone ∨ s.mdcNext.resetDone = true ∧ s.mdioSeq = .reset .settleReleased := by
  cases hs : s.mdioSeq with
  | idle => exact .inl (by rw [State.mdcNext, hs])
  | reset pos =>
    rw [mdcNext_reset hs]
    cases pos with
    | settleReleased => exact .inr ⟨rfl, rfl⟩
    | _ => exact .inl (by simp [State.resetNext])
  | waitNotBusy pos => exact .inl (by rw [State.mdcNext_waitNotBusy hs]; exact (s.waitOpNext_within pos).resetDone)
  | read a r pos => exact .inl (by rw [State.mdcNext_read hs]; exact (s.readNext_within a r pos).1.resetDone)
  | write a r v pos => exact .inl (by rw [State.mdcNext_write hs]; exact (s.writeNext_within a r v pos).1.resetDone)

/-! ## The fault mark of the line -/

/-- `t` has the fault mark of `s`, or it is marked on a level that has a line and for the reason `why`. -/
def State.FaultsOnlyIf (s t : State) (why : Prop) : Prop :=
  t.lineFault = s.lineFault ∨ t.lineFault = true ∧ s.level ≠ .openLine ∧ why

/-- R199 of a `CMD_READ` store. -/
theorem State.wrote_cmdRead_fault (s : State) (win : Window) (off : Nat) :
    s.FaultsOnlyIf (s.wrote .cmd win off s.cfg.cmdRead) (s.pending ≠ none) := by
  by_cases hl : s.level = .openLine
  · rw [State.wrote_openLine hl]
    exact .inl rfl
  · rw [State.wrote_cmdRead hl, State.lineCmdStore, if_pos rfl]
    split
    · rename_i c hp
      exact .inr ⟨rfl, hl, by simp [hp]⟩
    · split
      · exact .inl (State.trigger_lineFault _ _)
      · exact .inl rfl

/-- R199 of a `CTRL` store. -/
theorem State.wrote_ctrl_fault (s : State) (win : Window) (off : Nat) (v : Word) :
    s.FaultsOnlyIf (s.wrote .ctrl win off v) (s.pending ≠ none ∨ s.cmd = s.cfg.cmdRead) := by
  by_cases hl : s.level = .openLine
  · rw [State.wrote_openLine hl]
    exact .inl rfl
  · rw [State.wrote_ctrl hl, State.lineCtrlStore]
    split
    · rename_i c hp
      exact .inr ⟨rfl, hl, .inl (by simp [hp])⟩
    · split
      · exact .inl (State.trigger_lineFault _ _)
      · split
        · exact .inr ⟨rfl, hl, .inr (by assumption)⟩
        · exact .inl rfl

/-- Which micro-steps can mark the line faulted, and why. -/
def State.AtTrigger (s : State) : Prop :=
  (s.pending ≠ none ∧ ∃ a r, s.mdioSeq = .read a r .storeRead) ∨
    (s.pending ≠ none ∨ s.cmd = s.cfg.cmdRead) ∧ ∃ a r v, s.mdioSeq = .write a r v .storeCtrl

theorem State.readNext_fault (hc : s.cfg.Valid) {a r : Half} {pos : ReadPos} (hs : s.mdioSeq = .read a r pos) :
    s.FaultsOnlyIf (s.readNext a r pos) s.AtTrigger := by
  cases pos with
  | firstWait w => exact .inl (s.readNext_firstWait_within a r w).lineFault
  | secondWait w => exact .inl (s.readNext_secondWait_within a r w).lineFault
  | storeRead =>
    exact (s.wrote_cmdRead_fault .mdiowin s.cfg.cmdOff).imp id fun ⟨ht, hl, hp⟩ => ⟨ht, hl, .inl ⟨hp, a, r, hs⟩⟩
  | storeAddr =>
    rw [State.readNext, State.wrote_addr]
    exact .inl rfl
  | loadStatus => exact .inl (by simp [State.readNext])
  | _ =>
    rw [State.readNext, State.wrote_cmdWrite hc]
    exact .inl rfl

theorem State.writeNext_fault {a r v : Half} {pos : WritePos} (hs : s.mdioSeq = .write a r v pos) :
    s.FaultsOnlyIf (s.writeNext a r v pos) s.AtTrigger := by
  cases pos with
  | storeAddr =>
    rw [State.writeNext, State.wrote_addr]
    exact .inl rfl
  | storeCtrl =>
    exact (s.wrote_ctrl_fault .mdiowin s.cfg.ctrlOff (zextWord v)).imp id
      fun ⟨ht, hl, hp⟩ => ⟨ht, hl, .inr ⟨hp, a, r, v, hs⟩⟩
  | finalWait w => exact .inl (s.writeNext_finalWait_within a r v w).lineFault

/-- Only the two triggers mark the line faulted (R199). -/
theorem State.mdcNext_fault (hc : s.cfg.Valid) : s.FaultsOnlyIf s.mdcNext s.AtTrigger := by
  cases hs : s.mdioSeq with
  | idle => exact .inl (by rw [State.mdcNext, hs])
  | reset pos => exact .inl (by rw [mdcNext_reset hs]; exact (s.resetNext_within pos).lineFault)
  | waitNotBusy pos =>
    exact .inl (by rw [State.mdcNext, hs]; exact (s.waitOpNext_within pos).lineFault)
  | read a r pos => rw [State.mdcNext_read hs]; exact State.readNext_fault hc hs
  | write a r v pos => rw [State.mdcNext_write hs]; exact State.writeNext_fault hs

end Sys2Proof.Machine
end

section
/-! SUPPORT. The command latch, the arming of a read and the positions, micro-step by micro-step (41_mdio_controller.md
R150, R156, R158 to R161). -/

namespace Sys2Proof.Machine

variable {s t : State}

/-! ## The command latch -/

/-- Where a micro-step of a wait leads: on in the wait, with no more polls left, or to one of its two ends (R156). -/
theorem State.waitNext_position {Q : MdioSeq → Prop} (s : State) (pos : WaitPos) {again : WaitPos → MdioSeq}
    {notBusy timedOut : State → State} (hagain : ∀ p, p.pollsLeft ≤ pos.pollsLeft → Q (again p))
    (hn : ∀ u, Q (notBusy u).mdioSeq) (ht : ∀ u, Q (timedOut u).mdioSeq) :
    Q (s.waitNext pos again notBusy timedOut).mdioSeq := by
  match pos with
  | .poll 0 => exact ht _
  | .poll (n + 1) =>
    rw [State.waitNext]
    split
    · exact hagain _ (Nat.le_succ n)
    · exact hn _
  | .delay n => exact hagain _ (Nat.le_refl n)

theorem State.CommandLatch.of_same (h : s.CommandLatch) (hcmd : t.cmd = s.cmd) (hcfg : t.cfg = s.cfg)
    (hheld : s.mdioSeq.latchHeld = true → t.mdioSeq.latchHeld = true) : t.CommandLatch := by
  rw [State.CommandLatch, hcmd, hcfg]
  exact h.imp id fun ⟨hs, hread⟩ => ⟨hheld hs, hread⟩

/-- Every micro-step of `read` but the trigger leaves `CMD_WRITE` in the latch, or the latch as it is (R158, R159). -/
theorem State.readNext_commandLatch (h : s.CommandLatch) (hc : s.cfg.Valid) {a r : Half} {pos : ReadPos}
    (hs : s.mdioSeq = .read a r pos) : (s.readNext a r pos).CommandLatch := by
  cases pos with
  | firstWait w =>
    have hwait := s.readNext_firstWait_within a r w
    exact h.of_same hwait.cmd hwait.cfg (by rw [hs]; nofun)
  | secondWait w =>
    have hwait := s.readNext_secondWait_within a r w
    refine h.of_same hwait.cmd hwait.cfg fun _ => ?_
    exact s.waitNext_position (Q := fun q => q.latchHeld = true) w (fun _ _ => rfl) (fun _ => rfl) fun _ => rfl
  | storeRead =>
    obtain ⟨p, i, k, ts, n, f, es, hstore⟩ := s.wrote_cmd_frame .mdiowin s.cfg.cmdOff s.cfg.cmdRead
    rw [State.readNext, hstore]
    exact .inr ⟨rfl, rfl⟩
  | storeAddr =>
    rw [State.readNext, State.wrote_addr]
    exact h.of_same rfl rfl (by rw [hs]; nofun)
  | loadStatus => exact h.of_same (by simp [State.readNext]) (by simp [State.readNext]) fun _ => rfl
  | _ =>
    rw [State.readNext, State.wrote_cmdWrite hc]
    exact .inl rfl

/-- The engine reset idles the latch; no other micro-step of `reset` reaches it (R154, R196). -/
theorem State.resetNext_cmd (h : s.cmd = s.cfg.cmdWrite) (pos : ResetPos) :
    (s.resetNext pos).cmd = s.cfg.cmdWrite := by
  have hstore : ∀ v, (s.wrote .cfg .mdiowin s.cfg.cfgOff v).cmd = s.cfg.cmdWrite := fun v => by
    by_cases hv : v &&& s.cfg.resetBit = 0#32
    · rwa [State.wrote_cfgRelease hv]
    · rw [State.wrote_cfgAssert hv]
      simp [h]
  cases pos with
  | assert d => exact hstore _
  | release d => exact hstore _
  | _ => simpa [State.resetNext] using h

/-- A micro-step keeps the latch idle, but inside a `read` that has started its cycle (R160, R166). -/
theorem State.mdcNext_commandLatch (h : s.CommandLatch) (hc : s.cfg.Valid) : s.mdcNext.CommandLatch := by
  cases hs : s.mdioSeq with
  | idle => rwa [State.mdcNext, hs]
  | reset pos =>
    have hidle : s.cmd = s.cfg.cmdWrite := h.resolve_right fun ⟨hheld, _⟩ => by rw [hs] at hheld; cases hheld
    rw [mdcNext_reset hs]
    exact .inl (by rw [(s.resetNext_within pos).cfg, State.resetNext_cmd hidle])
  | waitNotBusy pos =>
    have hwait := s.waitOpNext_within pos
    rw [State.mdcNext_waitNotBusy hs]
    exact h.of_same hwait.cmd hwait.cfg (by rw [hs]; nofun)
  | read a r pos =>
    rw [State.mdcNext_read hs]
    exact State.readNext_commandLatch h hc hs
  | write a r v pos =>
    obtain ⟨hwithin, hcmd⟩ := s.writeNext_within a r v pos
    rw [State.mdcNext_write hs]
    exact h.of_same hcmd hwithin.cfg (by rw [hs]; nofun)

/-! ## Positions -/

/-- What `State.PositionOk` says of a position under a configuration. -/
def MdioSeq.Within (c : Config) (q : MdioSeq) : Prop :=
  (∀ w ∈ q.waitPos, w.pollsLeft ≤ c.retryBudget) ∧ ∀ d ∈ q.dividerHeld, d ∈ c.dividerTable

/-- A position outside every wait and before or after the search carries nothing. -/
theorem MdioSeq.within_of_none {c : Config} {q : MdioSeq} (hw : q.waitPos = none) (hd : q.dividerHeld = none) :
    q.Within c := by
  rw [MdioSeq.Within, hw, hd]
  exact ⟨nofun, nofun⟩

theorem MdioSeq.within_of_wait {c : Config} {q : MdioSeq} {w : WaitPos} (hw : q.waitPos = some w)
    (hle : w.pollsLeft ≤ c.retryBudget) (hd : q.dividerHeld = none) : q.Within c := by
  rw [MdioSeq.Within, hw, hd]
  exact ⟨fun _ h => by cases h; exact hle, nofun⟩

/-- A wait never has more polls left than before (R156). -/
theorem State.waitNext_positionWithin (s : State) {c : Config} {pos : WaitPos} {again : WaitPos → MdioSeq}
    {notBusy timedOut : State → State} (hle : pos.pollsLeft ≤ c.retryBudget)
    (hagain : ∀ p, (again p).waitPos = some p ∧ (again p).dividerHeld = none)
    (hn : ∀ u, (notBusy u).mdioSeq.Within c) (ht : ∀ u, (timedOut u).mdioSeq.Within c) :
    (s.waitNext pos again notBusy timedOut).mdioSeq.Within c :=
  s.waitNext_position (Q := (·.Within c)) pos
    (fun p hp => MdioSeq.within_of_wait (hagain p).1 (hp.trans hle) (hagain p).2) hn ht

theorem State.readNext_positionWithin {c : Config} {a r : Half} {pos : ReadPos} (h : (MdioSeq.read a r pos).Within c)
    (hc : s.cfg = c) : (s.readNext a r pos).mdioSeq.Within c := by
  cases pos with
  | firstWait w =>
    exact s.waitNext_positionWithin (h.1 w rfl) (fun _ => ⟨rfl, rfl⟩) (fun _ => MdioSeq.within_of_none rfl rfl)
      fun _ => MdioSeq.within_of_none rfl rfl
  | secondWait w =>
    exact s.waitNext_positionWithin (h.1 w rfl) (fun _ => ⟨rfl, rfl⟩) (fun _ => MdioSeq.within_of_none rfl rfl)
      fun _ => MdioSeq.within_of_none rfl rfl
  | storeRead => exact MdioSeq.within_of_wait (w := Config.fullWait s.cfg) rfl (by rw [hc]; rfl) rfl
  | _ => exact MdioSeq.within_of_none rfl rfl

theorem State.writeNext_positionWithin {c : Config} {a r v : Half} {pos : WritePos}
    (h : (MdioSeq.write a r v pos).Within c) (hc : s.cfg = c) : (s.writeNext a r v pos).mdioSeq.Within c := by
  cases pos with
  | storeAddr => exact MdioSeq.within_of_none rfl rfl
  | storeCtrl => exact MdioSeq.within_of_wait (w := Config.fullWait s.cfg) rfl (by rw [hc]; rfl) rfl
  | finalWait w =>
    exact s.waitNext_positionWithin (h.1 w rfl) (fun _ => ⟨rfl, rfl⟩) (fun _ => MdioSeq.within_of_none rfl rfl)
      fun _ => MdioSeq.within_of_none rfl rfl

/-- A `reset` carries on the entry its search found (R150, R154). -/
theorem State.resetNext_positionWithin (hc : s.cfg.Valid) {pos : ResetPos} (h : (MdioSeq.reset pos).Within s.cfg) :
    (s.resetNext pos).mdioSeq.Within s.cfg := by
  cases pos with
  | query =>
    rw [State.resetNext, State.resetWithClock]
    cases hd : s.clkQuery.2.cfg.divider s.clkQuery.1 with
    | none => exact MdioSeq.within_of_none rfl rfl
    | some d =>
      have hcfg : s.clkQuery.2.cfg = s.cfg := by simp
      exact ⟨nofun, fun e he => by cases he; exact hc.divider_mem (hcfg ▸ hd)⟩
  | assert d => exact ⟨nofun, h.2⟩
  | settleAsserted d => exact ⟨nofun, h.2⟩
  | release d => exact MdioSeq.within_of_none rfl rfl
  | settleReleased => exact MdioSeq.within_of_none rfl rfl

/-- A micro-step keeps what is said of the position (R150, R156). -/
theorem State.mdcNext_positionOk (h : s.PositionOk) (hc : s.cfg.Valid) : s.mdcNext.PositionOk := by
  have hcfg : s.mdcNext.cfg = s.cfg := congrArg Prod.fst s.mdcNext_selectorPart
  change s.mdcNext.mdioSeq.Within s.mdcNext.cfg
  rw [hcfg]
  change s.mdioSeq.Within s.cfg at h
  cases hs : s.mdioSeq with
  | idle => rwa [State.mdcNext, hs]
  | reset pos => rw [mdcNext_reset hs]; exact State.resetNext_positionWithin hc (hs ▸ h)
  | waitNotBusy pos =>
    rw [hs] at h
    rw [State.mdcNext_waitNotBusy hs]
    exact s.waitNext_positionWithin (h.1 pos rfl) (fun _ => ⟨rfl, rfl⟩) (fun _ => MdioSeq.within_of_none rfl rfl)
      fun _ => MdioSeq.within_of_none rfl rfl
  | read a r pos => rw [State.mdcNext_read hs]; exact State.readNext_positionWithin (hs ▸ h) rfl
  | write a r v pos => rw [State.mdcNext_write hs]; exact State.writeNext_positionWithin (hs ▸ h) rfl

/-- So does the position of an operation just accepted. -/
theorem firstPos_within (c : Config) (i : Instr) : (firstPos c i).Within c := by
  cases i with
  | waitNotBusy => exact MdioSeq.within_of_wait (w := .poll c.retryBudget) rfl (Nat.le_refl _) rfl
  | read a r => exact MdioSeq.within_of_wait (w := .poll c.retryBudget) rfl (Nat.le_refl _) rfl
  | _ => exact MdioSeq.within_of_none rfl rfl

/-! ## Arming -/

/-- After a successful `reset` a clear load of `IND` on a level with a line means that no cycle is in flight (R158,
R192). -/
theorem State.LineOk.pending_of_clear (h : s.LineOk) (hl : s.level ≠ .openLine) (hb : s.beforeReset = false)
    (hclear : s.cfg.busyIn (s.lineLoad .ind).1 = false) : (s.lineLoad .ind).2.pending = none := by
  have hword : (s.lineLoad .ind).1 = (s.lineLoad .ind).2.ind := by rw [State.lineLoad_driven hb]; rfl
  have hbusy := h.lineLoad_ind.2.resolve_left (by simpa using hl)
  rw [hword, ← s.lineLoad_cfg .ind] at hclear
  by_contra hp
  rw [hbusy.mpr hp] at hclear
  cases hclear

/-- A `read` that has seen the busy bit clear arms its cycle with nothing in flight (R158, R168). -/
theorem State.readNext_arms (h : s.LineOk) (hc : s.cfg.Valid) (hl : s.level ≠ .openLine) (hd : s.resetDone = true)
    {a r : Half} {pos : ReadPos} (harm : (MdioSeq.read a r pos).arming = true → s.pending = none) :
    (s.readNext a r pos).mdioSeq.arming = true → (s.readNext a r pos).pending = none := by
  have hb : s.beforeReset = false := by simp [State.beforeReset, hd]
  cases pos with
  | firstWait w =>
    match w with
    | .poll 0 => exact nofun
    | .delay n => exact nofun
    | .poll (n + 1) =>
      rw [State.readNext, State.waitNext]
      split
      · exact nofun
      · rename_i hbusy
        exact fun _ => h.pending_of_clear hl hb (by simpa using hbusy)
  | secondWait w =>
    intro ht
    have hnot := s.waitNext_position (Q := fun q => q.arming = false) w (again := fun q => .read a r (.secondWait q))
      (notBusy := fun t => t.goTo (.read a r .loadStatus)) (timedOut := fun t => t.goTo (.read a r .abort))
      (fun _ _ => rfl) (fun _ => rfl) fun _ => rfl
    cases hnot.symm.trans ht
  | storeIdle =>
    rw [State.readNext, State.wrote_cmdWrite hc]
    exact fun _ => harm rfl
  | storeAddr =>
    rw [State.readNext, State.wrote_addr]
    exact fun _ => harm rfl
  | _ => exact nofun

/-- A micro-step of another operation does not lead to an arming position. -/
theorem State.MicroStep.not_arming {i : Instr} (h : s.MicroStep i t) (hi : ∀ a r, i ≠ .read a r) :
    t.mdioSeq.arming = false := by
  cases h with
  | @goesOn evs u q hu hq hlt =>
    cases q with
    | read a r pos => exact absurd (Option.some.inj hq).symm (hi a r)
    | _ => rfl
  | answers hu hr => rfl

/-- A micro-step keeps what is said of an arming `read`; a `reset` that has just succeeded arms nothing. -/
theorem State.mdcNext_armsIdleLine (h : s.LineOk) (hc : s.cfg.Valid) (harms : s.ArmsIdleLine) :
    s.mdcNext.ArmsIdleLine := by
  by_cases hl : s.level = .openLine
  · exact .inl (s.mdcNext_level.trans hl)
  obtain hd | ⟨-, hs⟩ := s.mdcNext_resetDone
  · cases hreset : s.resetDone with
    | false => exact .inr (.inl (hd.trans hreset))
    | true =>
      have harm := (harms.resolve_left hl).resolve_left (by simp [hreset])
      have hother : ∀ i, s.mdioSeq.instr = some i → (∀ a r, i ≠ .read a r) → s.mdcNext.ArmsIdleLine := fun i hi hne =>
        .inr (.inr fun ht => by cases ((State.mdcNext_microStep hi).not_arming hne).symm.trans ht)
      cases hs : s.mdioSeq with
      | idle => rw [State.mdcNext, hs]; exact harms
      | reset pos => exact hother .reset (congrArg MdioSeq.instr hs) nofun
      | waitNotBusy pos => exact hother .waitNotBusy (congrArg MdioSeq.instr hs) nofun
      | write a r v pos => exact hother (.write a r v) (congrArg MdioSeq.instr hs) nofun
      | read a r pos =>
        rw [State.mdcNext_read hs]
        exact .inr (.inr (State.readNext_arms h hc hl hreset (hs ▸ harm)))
  · rw [mdcNext_reset hs]
    exact .inr (.inr nofun)

end Sys2Proof.Machine
end

section
/-! SUPPORT. The statements about what every step keeps (10_state.md R39; 41_mdio_controller.md R160, R166;
42_mdio_device_side.md R192, R199). -/

namespace Sys2Proof

open Machine

variable {s t : State}

/-- An operation just accepted arms no cycle, is not at a trigger, and is not at the end of a `reset`. -/
theorem firstPos_plain (c : Config) (i : Instr) :
    (firstPos c i).arming = false ∧ firstPos c i ≠ .reset .settleReleased ∧
      (∀ a r, firstPos c i ≠ .read a r .storeRead) ∧ ∀ a r v, firstPos c i ≠ .write a r v .storeCtrl := by
  cases i <;> exact ⟨rfl, nofun, nofun, nofun⟩

/-- Settles O53: a micro-step marks and notes, and clears neither. -/
theorem stickyAndFixedState : Obligations.StickyAndFixedState := by
  intro s t h
  have hc := step_valid_of_next h
  obtain ⟨hline, -⟩ | ⟨i, u, hline, hpos, -, rfl⟩ := step_mdio_cases h
  · exact ⟨hline.lineFault.trans, hline.resetDone.trans, fun ht => .inl (hline.resetDone.symm.trans ht), hline.cfg,
      hline.level⟩
  · have hfault := State.mdcNext_fault (hline.cfg ▸ hc)
    refine ⟨fun hs => ?_, fun hs => ?_, fun ht => ?_, (step_portWord h).1, u.mdcNext_level.trans hline.level⟩
    · exact hfault.elim (fun hsame => hsame.trans (hline.lineFault.trans hs)) And.left
    · exact u.mdcNext_resetDone.elim (fun hsame => hsame.trans (hline.resetDone.trans hs)) And.left
    · obtain hsame | ⟨-, hu⟩ := u.mdcNext_resetDone
      · exact .inl (hline.resetDone.symm.trans (hsame.symm.trans ht))
      · obtain ⟨-, hfinal, -, -⟩ := firstPos_plain s.cfg i
        obtain hpos | ⟨-, hfirst⟩ := hpos
        · exact .inr (hpos.symm.trans hu)
        · exact absurd (hfirst.symm.trans hu) hfinal

/-- Settles O51: no micro-step takes the latch out of `CMD_WRITE` but the trigger of a `read`. -/
theorem commandLatchIsKept : Obligations.CommandLatchIsKept := by
  intro s t hlatch h
  have ht : t.CommandLatch := by
    obtain ⟨hline, hpos⟩ | ⟨i, u, hline, hpos, -, rfl⟩ := step_mdio_cases h
    · exact hlatch.of_same hline.cmd hline.cfg (by rw [hpos]; exact id)
    · refine State.mdcNext_commandLatch (hlatch.of_same hline.cmd hline.cfg fun hheld => ?_)
        (hline.cfg ▸ step_valid_of_next h)
      obtain hpos | ⟨hidle, -⟩ := hpos
      · rwa [hpos]
      · rw [hidle] at hheld
        cases hheld
  exact ⟨ht, fun hidle => ht.resolve_right fun ⟨hheld, _⟩ => by rw [hidle] at hheld; cases hheld⟩

/-- What LINE leaves of the statement about an arming `read`. -/
theorem armsIdleLine_of_onlyLineMoved {u : State} (h : s.ArmsIdleLine) (hline : s.OnlyLineMoved u)
    (harm : u.mdioSeq.arming = true → s.mdioSeq.arming = true) : u.ArmsIdleLine := by
  rw [State.ArmsIdleLine, hline.level, hline.resetDone]
  exact h.imp id (Or.imp id fun hidle hu => hline.pending (hidle (harm hu)))

/-- Settles O49: each part is kept by LINE's opportunity, by the selector and by every micro-step. -/
theorem invariantIsKept : Obligations.InvariantIsKept := by
  intro s t ⟨hc, hwf, hbusy, hsel, hposition, harms⟩ h
  have hselSeq := step_selSeq h hsel
  obtain ⟨hline, hpos⟩ | ⟨i, u, hline, hpos, -, rfl⟩ := step_mdio_cases h
  · obtain ⟨hwf', hbusy'⟩ := hline.lineOk ⟨hwf, hbusy⟩
    refine ⟨hline.cfg ▸ hc, hwf', hbusy', hselSeq, ?_,
      armsIdleLine_of_onlyLineMoved harms hline (by rw [hpos]; exact id)⟩
    rwa [State.PositionOk, hpos, hline.cfg]
  · have hc' : u.cfg.Valid := hline.cfg ▸ hc
    have hlineOk := hline.lineOk ⟨hwf, hbusy⟩
    have hposition' : u.PositionOk := by
      rw [State.PositionOk, hline.cfg]
      obtain hpos | ⟨-, hfirst⟩ := hpos
      · rwa [hpos]
      · rw [hfirst]
        exact firstPos_within s.cfg i
    have harms' : u.ArmsIdleLine := by
      refine armsIdleLine_of_onlyLineMoved harms hline fun hu => ?_
      obtain hpos | ⟨-, hfirst⟩ := hpos
      · rwa [hpos] at hu
      · rw [hfirst, (firstPos_plain s.cfg i).1] at hu
        cases hu
    obtain ⟨hwf', hbusy'⟩ := hlineOk.mdcNext hc'
    refine ⟨?_, hwf', hbusy', hselSeq, State.mdcNext_positionOk hposition' hc',
      State.mdcNext_armsIdleLine hlineOk hc' harms'⟩
    rwa [(step_portWord h).1]

/-- Settles O52: from the invariant the latch is not in READ-mode at a `CTRL` store, and after a successful `reset`
nothing is in flight at a `CMD_READ` store. -/
theorem onlyATriggerWhileBusyFaultsTheLine : Obligations.OnlyATriggerWhileBusyFaultsTheLine := by
  intro s t hinv hlatch hs h ht
  obtain ⟨hc, -, -, -, -, harms⟩ := hinv
  obtain ⟨hline, -⟩ | ⟨i, u, hline, hpos, -, rfl⟩ := step_mdio_cases h
  · cases (hline.lineFault.trans hs).symm.trans ht
  · have hsame : ∀ {q}, u.mdioSeq = q → firstPos s.cfg i ≠ q → s.mdioSeq = q := fun hu hne =>
      hpos.elim (fun hpos => hpos.symm.trans hu) fun ⟨_, hfirst⟩ => absurd (hfirst.symm.trans hu) hne
    obtain ⟨-, -, hread, hwrite⟩ := firstPos_plain s.cfg i
    obtain hkept | ⟨-, hl, hwhy⟩ := State.mdcNext_fault (hline.cfg ▸ hc)
    · cases (hkept.trans (hline.lineFault.trans hs)).symm.trans ht
    rw [hline.level] at hl
    obtain ⟨hp, a, r, hu⟩ | ⟨hp, a, r, v, hu⟩ := hwhy
    · have hs := hsame hu (hread a r)
      have hp : s.pending ≠ none := fun hnone => hp (hline.pending hnone)
      refine ⟨hl, hp, .inr ⟨?_, a, r, hs⟩⟩
      exact (harms.resolve_left hl).resolve_right fun harm => hp (harm (by rw [hs]; rfl))
    · have hs := hsame hu (hwrite a r v)
      have hcmd : s.cmd = s.cfg.cmdWrite := hlatch.resolve_right fun ⟨hheld, _⟩ => by rw [hs] at hheld; cases hheld
      have hp : u.pending ≠ none := hp.resolve_right fun hmode => by
        rw [hline.cmd, hline.cfg, hcmd] at hmode
        exact hc.commands_ne hmode
      exact ⟨hl, fun hnone => hp (hline.pending hnone), .inl ⟨a, r, v, hs⟩⟩

end Sys2Proof
end

section
/-! SUPPORT. An MDIO operation neither reads nor changes the selector's state, and reads nothing of the history
(00_scope.md R2; 20_memory.md R78): each function of the model does the same with another selector side and other events in
front. -/

namespace Sys2Proof.Machine

/-- `s` with the selector's state of `u`, and `h` in front of its history. -/
abbrev State.behind (s u : State) (h : List Event) : State :=
  { s with miictrl0 := u.miictrl0, miictrl1 := u.miictrl1, selSeq := u.selSeq, history := h ++ s.history }

variable (s u : State) (h : List Event)

/-! ## The line -/

theorem State.drawWord_behind : (s.behind u h).drawWord = (s.drawWord.1, s.drawWord.2.behind u h) := by
  simp only [State.drawWord]
  split <;> rfl

theorem State.drawTurn_behind : (s.behind u h).drawTurn = (s.drawTurn.1, s.drawTurn.2.behind u h) := by
  simp only [State.drawTurn]
  split <;> rfl

theorem State.drawClk_behind : (s.behind u h).drawClk = (s.drawClk.1, s.drawClk.2.behind u h) := by
  simp only [State.drawClk]
  split <;> rfl

theorem State.completeCycle_behind : (s.behind u h).completeCycle = s.completeCycle.behind u h := by
  simp only [State.completeCycle]
  split <;> rfl

theorem State.beforeReset_behind : (s.behind u h).beforeReset = s.beforeReset := rfl

theorem State.trigger_behind (c : Cycle) : (s.behind u h).trigger c = (s.trigger c).behind u h := by
  simp only [State.trigger, State.beforeReset_behind, State.drawTurn_behind]
  split_ifs <;> rfl

theorem State.lineCmdStore_behind (v : Word) : (s.behind u h).lineCmdStore v = (s.lineCmdStore v).behind u h := by
  simp only [State.lineCmdStore, State.trigger_behind]
  split_ifs
  · split <;> rfl
  · split <;> rfl
  · rfl
  · rfl

theorem State.lineCtrlStore_behind (v : Word) : (s.behind u h).lineCtrlStore v = (s.lineCtrlStore v).behind u h := by
  simp only [State.lineCtrlStore, State.trigger_behind]
  split
  · rfl
  · split_ifs <;> rfl

theorem State.lineCfgStore_behind (v : Word) : (s.behind u h).lineCfgStore v = (s.lineCfgStore v).behind u h := by
  simp only [State.lineCfgStore]
  split_ifs <;> rfl

theorem State.lineStore_behind (r : Reg) (v : Word) : (s.behind u h).lineStore r v = (s.lineStore r v).behind u h := by
  simp only [State.lineStore]
  split
  · rfl
  all_goals
    cases r with
    | cfg => exact s.lineCfgStore_behind u h v
    | cmd => exact s.lineCmdStore_behind u h v
    | ctrl => exact s.lineCtrlStore_behind u h v
    | _ => rfl

theorem State.simPoll_behind : (s.behind u h).simPoll = s.simPoll.behind u h := by
  simp only [State.simPoll, State.completeCycle_behind]
  split
  · rfl
  · split_ifs <;> rfl

theorem State.indTick_behind : (s.behind u h).indTick = s.indTick.behind u h := by
  simp only [State.indTick, State.simPoll_behind]
  split <;> rfl

theorem State.driveInd_behind : (s.behind u h).driveInd = s.driveInd.behind u h := by
  simp only [State.driveInd, State.simPoll_behind, State.drawWord_behind]
  split <;> rfl

theorem State.driveStatus_behind : (s.behind u h).driveStatus = s.driveStatus.behind u h := by
  simp only [State.driveStatus, State.drawWord_behind]
  split <;> rfl

theorem State.lineTurn_behind : (s.behind u h).lineTurn = s.lineTurn.behind u h := by
  simp only [State.lineTurn, State.drawTurn_behind, State.completeCycle_behind]
  split
  · rfl
  · rfl
  · split
    · rfl
    · split_ifs <;> rfl

/-- A load of a register of `MDIOWIN`. -/
theorem State.lineLoad_behind {r : Reg} (h0 : r ≠ .miictrl0) (h1 : r ≠ .miictrl1) :
    (s.behind u h).lineLoad r = ((s.lineLoad r).1, (s.lineLoad r).2.behind u h) := by
  cases r with
  | miictrl0 => exact absurd rfl h0
  | miictrl1 => exact absurd rfl h1
  | ind =>
    cases hb : s.beforeReset with
    | true =>
      rw [State.lineLoad_ind_before hb, State.lineLoad_ind_before (s := s.behind u h) hb, State.indTick_behind,
        State.drawWord_behind]
    | false =>
      rw [State.lineLoad_driven hb, State.lineLoad_driven (s := s.behind u h) hb, State.lineDrive,
        State.driveInd_behind]
      rfl
  | status =>
    cases hb : s.beforeReset with
    | true =>
      rw [State.lineLoad_status_before hb, State.lineLoad_status_before (s := s.behind u h) hb, State.drawWord_behind]
    | false =>
      rw [State.lineLoad_driven hb, State.lineLoad_driven (s := s.behind u h) hb, State.lineDrive,
        State.driveStatus_behind]
      rfl
  | _ => simp [State.lineLoad_other, State.readReg]

/-! ## The accesses -/

theorem State.record_behind (e : Event) : (s.behind u h).record e = (s.record e).behind u h := by
  simp [State.record]

/-- No register of `MDIOWIN` is a port's (R61, R62). -/
theorem Config.regAt_mdiowin_ne {c : Config} {off : Nat} {r : Reg} (hr : c.regAt .mdiowin off = some r) :
    r ≠ .miictrl0 ∧ r ≠ .miictrl1 := by
  unfold Config.regAt at hr
  split at hr
  · contradiction
  · split_ifs at hr <;> cases hr <;> exact ⟨nofun, nofun⟩

/-- What a load answers, behind. -/
abbrev behindLoad (u : State) (h : List Event) (p : Word × State) : Word × State := (p.1, p.2.behind u h)

theorem State.regRead_behind (off : Nat) :
    (s.behind u h).regRead .mdiowin off = (s.regRead .mdiowin off).map (behindLoad u h) := by
  simp only [State.regRead]
  cases hr : s.cfg.regAt .mdiowin off with
  | none => rfl
  | some r =>
    obtain ⟨h0, h1⟩ := Config.regAt_mdiowin_ne hr
    simp only [State.loadReg, State.lineLoad_behind s u h h0 h1, State.record_behind]
    rfl

theorem State.storeReg_behind {r : Reg} (h0 : r ≠ .miictrl0) (h1 : r ≠ .miictrl1) (v : Word) :
    (s.behind u h).storeReg r v = (s.storeReg r v).behind u h := by
  rw [State.storeReg, State.lineStore_behind]
  cases r with
  | miictrl0 => exact absurd rfl h0
  | miictrl1 => exact absurd rfl h1
  | _ => rfl

theorem State.regWrite_behind (off : Nat) (v : Word) :
    (s.behind u h).regWrite .mdiowin off v = (s.regWrite .mdiowin off v).map (State.behind · u h) := by
  simp only [State.regWrite]
  cases hr : s.cfg.regAt .mdiowin off with
  | none => rfl
  | some r =>
    obtain ⟨h0, h1⟩ := Config.regAt_mdiowin_ne hr
    cases r with
    | status => rfl
    | ind => rfl
    | _ =>
      simp only [State.loadReg, State.storeReg_behind s u h h0 h1, State.record_behind,
        State.lineLoad_behind _ u h h0 h1]
      rfl

/-! ## The micro-steps -/

theorem State.storeThen_behind (off : Nat) (v : Word) {next : State → State}
    (hn : ∀ t : State, next (t.behind u h) = (next t).behind u h) :
    (s.behind u h).storeThen off v next = (s.storeThen off v next).map (State.behind · u h) := by
  rw [State.storeThen, State.storeThen, State.regWrite_behind]
  cases s.regWrite .mdiowin off v with
  | error f => rfl
  | ok t => exact congrArg Except.ok (hn t)

theorem State.waitThen_behind (pos : WaitPos) (again : WaitPos → MdioSeq) {notBusy timedOut : State → State}
    (hn : ∀ t : State, notBusy (t.behind u h) = (notBusy t).behind u h)
    (ht : ∀ t : State, timedOut (t.behind u h) = (timedOut t).behind u h) :
    (s.behind u h).waitThen pos again notBusy timedOut =
      (s.waitThen pos again notBusy timedOut).map (State.behind · u h) := by
  match pos with
  | .poll 0 =>
    simp only [State.waitThen, State.waitStep, State.record_behind]
    exact congrArg Except.ok (ht _)
  | .poll (n + 1) =>
    simp only [State.waitThen, State.waitStep, State.regRead_behind]
    cases s.regRead .mdiowin s.cfg.indOff with
    | error f => rfl
    | ok p =>
      simp only [Except.map]
      split_ifs
      · rfl
      · exact congrArg Except.ok (hn _)
  | .delay n =>
    simp only [State.waitThen, State.waitStep, State.delay, State.record_behind]
    rfl

theorem State.answerMdc_behind (r : Result) : (s.behind u h).answerMdc r = (s.answerMdc r).behind u h := by
  simp only [State.answerMdc, State.record_behind]

theorem State.openMdc_behind (i : Instr) (q : MdioSeq) : (s.behind u h).openMdc i q = (s.openMdc i q).behind u h := by
  simp only [State.openMdc, State.record_behind]

theorem State.resetWithClock_behind (q : Option Nat) :
    (s.behind u h).resetWithClock q = (s.resetWithClock q).behind u h := by
  simp only [State.resetWithClock]
  split
  · exact State.answerMdc_behind { s with refRate := q } u h _
  · rfl

theorem State.resetStep_behind (pos : ResetPos) :
    (s.behind u h).resetStep pos = (s.resetStep pos).map (State.behind · u h) := by
  cases pos with
  | query =>
    simp only [State.resetStep, State.clkQuery, State.drawClk_behind, State.record_behind]
    exact congrArg Except.ok (State.resetWithClock_behind _ u h _)
  | assert d => exact s.storeThen_behind u h _ _ fun _ => rfl
  | settleAsserted d =>
    simp only [State.resetStep, State.delay, State.record_behind]
    rfl
  | release d => exact s.storeThen_behind u h _ _ fun _ => rfl
  | settleReleased =>
    simp only [State.resetStep, State.delay, State.record_behind]
    exact congrArg Except.ok ((s.record (.delay s.cfg.resetSettleUs)).markReset.answerMdc_behind u h .ok)

theorem State.waitOpStep_behind (pos : WaitPos) :
    (s.behind u h).waitOpStep pos = (s.waitOpStep pos).map (State.behind · u h) :=
  s.waitThen_behind u h pos _ (fun t => t.answerMdc_behind u h _) fun t => t.answerMdc_behind u h _

theorem State.readStep_behind (a r : Half) (pos : ReadPos) :
    (s.behind u h).readStep a r pos = (s.readStep a r pos).map (State.behind · u h) := by
  cases pos with
  | firstWait w => exact s.waitThen_behind u h w _ (fun _ => rfl) fun t => t.answerMdc_behind u h _
  | storeIdle => exact s.storeThen_behind u h _ _ fun _ => rfl
  | storeAddr => exact s.storeThen_behind u h _ _ fun _ => rfl
  | storeRead => exact s.storeThen_behind u h _ _ fun _ => rfl
  | secondWait w => exact s.waitThen_behind u h w _ (fun _ => rfl) fun _ => rfl
  | abort => exact s.storeThen_behind u h _ _ fun t => t.answerMdc_behind u h _
  | loadStatus =>
    simp only [State.readStep, State.regRead_behind]
    cases s.regRead .mdiowin s.cfg.statusOff <;> rfl
  | storeBack v =>
    exact s.storeThen_behind u h _ _ fun t => by rw [State.record_behind, State.answerMdc_behind]

theorem State.writeStep_behind (a r v : Half) (pos : WritePos) :
    (s.behind u h).writeStep a r v pos = (s.writeStep a r v pos).map (State.behind · u h) := by
  cases pos with
  | storeAddr => exact s.storeThen_behind u h _ _ fun _ => rfl
  | storeCtrl => exact s.storeThen_behind u h _ _ fun t => by rw [State.record_behind]; rfl
  | finalWait w => exact s.waitThen_behind u h w _ (fun t => t.answerMdc_behind u h _) fun t => t.answerMdc_behind u h _

/-! ## The operations -/

/-- What a step answers, with its next state changed. -/
def mapNext (f : State → State) : Answer → Answer
  | .next s => .next (f s)
  | .fault r => .fault r
  | .refused r => .refused r

theorem answerOf_map (f : State → State) (x : Except Fault State) : answerOf (x.map f) = mapNext f (answerOf x) := by
  cases x <;> rfl

theorem exec_behind {i : Instr} (hi : componentOf i = .mdc) :
    exec i (s.behind u h) = mapNext (State.behind · u h) (exec i s) := by
  cases i with
  | setInterfaceMode p m => cases hi
  | setLinkSpeed p v => cases hi
  | computeDivider =>
    simp only [exec, execComputeDivider, State.openMdc_behind, State.answerMdc_behind]
    split
    · split <;> rfl
    · rfl
  | reset =>
    simp only [exec, execReset, State.openMdc_behind, State.resetStep_behind, answerOf_map]
    split <;> rfl
  | waitNotBusy =>
    simp only [exec, execWaitNotBusy, State.openMdc_behind, State.waitOpStep_behind, answerOf_map]
    split <;> rfl
  | read a r =>
    simp only [exec, execRead, State.openMdc_behind, State.readStep_behind, answerOf_map]
    split
    · rfl
    · split_ifs <;> rfl
    · rfl
  | write a r v =>
    simp only [exec, execWrite, State.openMdc_behind, State.writeStep_behind, answerOf_map]
    split
    · rfl
    · split_ifs <;> rfl
    · rfl

end Sys2Proof.Machine
end

section
/-! SUPPORT. A selector operation neither reads nor changes the MdioController's state, its line or its clock, and reads
nothing of the history (00_scope.md R2; 20_memory.md R78). -/

namespace Sys2Proof.Machine

/-- `s` with the MdioController's side of `u`, and `h` in front of its history. -/
abbrev State.beside (s u : State) (h : List Event) : State :=
  { s with
    cfgReg := u.cfgReg, cmd := u.cmd, addr := u.addr, ctrl := u.ctrl, status := u.status, ind := u.ind
    refRate := u.refRate, mdioSeq := u.mdioSeq, pending := u.pending, phy := u.phy, lineFault := u.lineFault
    resetDone := u.resetDone, countdown := u.countdown, clkAnswers := u.clkAnswers, draws := u.draws, turns := u.turns
    drawn := u.drawn, level := u.level, history := h ++ s.history }

variable (s u : State) (h : List Event)

theorem State.record_beside (e : Event) : (s.beside u h).record e = (s.record e).beside u h := by
  simp [State.record]

theorem State.answerSel_beside (r : Result) : (s.beside u h).answerSel r = (s.answerSel r).beside u h := by
  simp only [State.answerSel, State.record_beside]

theorem State.openSel_beside (i : Instr) : (s.beside u h).openSel i = (s.openSel i).beside u h := by
  simp only [State.openSel, State.record_beside]

/-- The registers of `SELWIN` are the ports' (R61). -/
theorem Config.regAt_selwin {c : Config} {off : Nat} {r : Reg} (hr : c.regAt .selwin off = some r) :
    r = .miictrl0 ∨ r = .miictrl1 := by
  unfold Config.regAt at hr
  split at hr
  · split_ifs at hr <;> cases hr
    · exact .inl rfl
    · exact .inr rfl
  · contradiction

/-- What a load answers, beside. -/
abbrev besideLoad (u : State) (h : List Event) (p : Word × State) : Word × State := (p.1, p.2.beside u h)

theorem State.regRead_beside (off : Nat) :
    (s.beside u h).regRead .selwin off = (s.regRead .selwin off).map (besideLoad u h) := by
  simp only [State.regRead]
  cases hr : s.cfg.regAt .selwin off with
  | none => rfl
  | some r =>
    obtain rfl | rfl := Config.regAt_selwin hr
    · simp [State.loadReg, State.lineLoad_other, State.readReg, State.record, Except.map]
    · simp [State.loadReg, State.lineLoad_other, State.readReg, State.record, Except.map]

theorem State.regWrite_beside (off : Nat) (v : Word) :
    (s.beside u h).regWrite .selwin off v = (s.regWrite .selwin off v).map (State.beside · u h) := by
  cases hr : s.cfg.regAt .selwin off with
  | none => simp [State.regWrite, hr, Except.map]
  | some r =>
    obtain rfl | rfl := Config.regAt_selwin hr
    · rw [State.regWrite_eq v hr nofun nofun, State.regWrite_eq (s := s.beside u h) v hr nofun nofun,
        State.wrote_miictrl0, State.wrote_miictrl0]
      simp [Except.map]
    · rw [State.regWrite_eq v hr nofun nofun, State.regWrite_eq (s := s.beside u h) v hr nofun nofun,
        State.wrote_miictrl1, State.wrote_miictrl1]
      simp [Except.map]

theorem State.selectorOp_beside (p : Nat) (f : Word → Option Word) :
    (s.beside u h).selectorOp p f = (s.selectorOp p f).map (State.beside · u h) := by
  simp only [State.selectorOp]
  split_ifs
  · exact congrArg Except.ok (s.answerSel_beside u h _)
  · rw [State.regRead_beside]
    cases s.regRead .selwin (s.cfg.portOffset p) with
    | error e => rfl
    | ok q =>
      simp only [Except.map]
      cases f q.1 with
      | none => exact congrArg Except.ok (q.2.answerSel_beside u h _)
      | some v =>
        simp only [State.regWrite_beside]
        cases q.2.regWrite .selwin (q.2.cfg.portOffset p) v with
        | error e => rfl
        | ok t => exact congrArg Except.ok (t.answerSel_beside u h _)

theorem exec_beside {i : Instr} (hi : componentOf i = .sel) :
    exec i (s.beside u h) = mapNext (State.beside · u h) (exec i s) := by
  obtain ⟨p, ⟨m, rfl⟩ | ⟨v, rfl⟩⟩ := exists_port_of_sel hi
  · simp only [exec, execSetInterfaceMode, State.openSel_beside, State.selectorOp_beside, answerOf_map]
    split <;> rfl
  · simp only [exec, execSetLinkSpeed, State.openSel_beside, State.selectorOp_beside, answerOf_map]
    split <;> rfl

end Sys2Proof.Machine
end

section
/-! SUPPORT. The statements about what operations do not depend on (00_scope.md R2; 20_memory.md R78). -/

namespace Sys2Proof

open Machine

variable {s t : State} {i : Instr}

theorem exec_behind_of_next (hi : componentOf i = .mdc) (hx : exec i s = .next t) (u : State) (h : List Event) :
    exec i (s.behind u h) = .next (t.behind u h) := by
  rw [exec_behind s u h hi, hx, mapNext]

theorem exec_beside_of_next (hi : componentOf i = .sel) (hx : exec i s = .next t) (u : State) (h : List Event) :
    exec i (s.beside u h) = .next (t.beside u h) := by
  rw [exec_beside s u h hi, hx, mapNext]

/-- Settles O57: with its own other side put back an operation answers the same, so that side is unchanged. -/
theorem componentsAreIndependent : Obligations.ComponentsAreIndependent := by
  refine fun s t u i hx => ⟨fun hi => ⟨?_, exec_behind_of_next hi hx u []⟩,
    fun hi => ⟨?_, exec_beside_of_next hi hx u []⟩⟩
  · exact Host.Outcome.next.inj ((exec_behind_of_next hi hx s []).symm.trans hx)
  · exact Host.Outcome.next.inj ((exec_beside_of_next hi hx s []).symm.trans hx)

/-! ## The history -/

/-- `s` with `h` in front of its history. -/
abbrev after (s : State) (h : List Event) : State := { s with history := h ++ s.history }

theorem mapNext_congr {f g : State → State} {x : Answer} (hfg : ∀ t, x = .next t → f t = g t) :
    mapNext f x = mapNext g x := by
  cases x with
  | next t => exact congrArg Host.Outcome.next (hfg t rfl)
  | _ => rfl

/-- An operation of either component: its other side put back, only the history differs. -/
theorem exec_after (i : Instr) (s : State) (h : List Event) : exec i (after s h) = mapNext (after · h) (exec i s) := by
  cases hi : componentOf i with
  | mdc =>
    refine (exec_behind s s h hi).trans (mapNext_congr fun t hx => ?_)
    exact congrArg (after · h) ((componentsAreIndependent s t s i hx).1 hi).1
  | sel =>
    refine (exec_beside s s h hi).trans (mapNext_congr fun t hx => ?_)
    exact congrArg (after · h) ((componentsAreIndependent s t s i hx).2 hi).1

/-- A turn with `h` in front of its state's history. -/
def turnAfter (h : List Event) : Turn → Turn
  | .run i s => .run i (after s h)
  | .done s => .done (after s h)
  | .refuse r => .refuse r

theorem goOn_after (s : State) (h : List Event) : (after s h).goOn = turnAfter h s.goOn := by
  simp only [State.goOn]
  split <;> rfl

theorem issue_after (s : State) (w : RequestWord) (h : List Event) :
    (after s h).issue w = turnAfter h (s.issue w) := by
  simp only [State.issue]
  split
  · simp [turnAfter, State.answerIllegal, State.record]
  · split_ifs <;> rfl

theorem turn_after (s : State) (h : List Event) : (after s h).turn = turnAfter h s.turn := by
  simp only [State.turn]
  split
  · exact goOn_after s h
  · rename_i q qs _
    split
    · split_ifs
      · exact issue_after { s with requests := qs } q.word h
      · exact goOn_after s h
    · exact issue_after { s with requests := qs } q.word h
    · rename_i n _
      exact goOn_after { s with requests := { q with overlap := some n } :: qs } h

theorem lineTurn_after (s : State) (h : List Event) : (after s h).lineTurn = after s.lineTurn h :=
  (s.lineTurn_behind s h).trans (by simp)

/-- A step does the same whatever stands in front of the history (R78). -/
theorem step_after (s : State) (h : List Event) : step (after s h) = mapNext (after · h) (step s) := by
  simp only [step, lineTurn_after, turn_after]
  split_ifs
  · cases s.lineTurn.turn with
    | run i u => exact exec_after i u h
    | done u => rfl
    | refuse r => rfl
  · rfl

/-- Settles O56: every history is one put in front of the empty one. -/
theorem historyIsReadForNothing : Obligations.HistoryIsReadForNothing := by
  intro s t h
  have hstep : ∀ es, step { s with history := es } = mapNext (after · es) (step { s with history := [] }) := by
    intro es
    rw [← step_after, after, List.append_nil]
  have hs := (hstep s.history).symm.trans h
  cases h0 : step { s with history := [] } with
  | next t0 =>
    rw [h0] at hs hstep
    cases hs
    exact ⟨t0.history, rfl, hstep⟩
  | fault f => rw [h0] at hs; cases hs
  | refused r => rw [h0] at hs; cases hs

end Sys2Proof
end
